-- ==== Sys2Proof/Word.lean ====
section
/-! DEFINITION. The plain types the model is written in: bytes of the telegram line, zone and slot
indexes, sets of zones, converter readings. Bit patterns stand only where the spec carries bits. -/

namespace Sys2Proof

/-- One byte on the telegram line (R148). -/
abbrev Byte := BitVec 8

/-- A platen zone. Zone number n of the spec (1 to 12) is index n - 1. -/
abbrev ZoneIx := Fin 12

/-- A tool slot. Slot number n of the spec (1 to 8) is index n - 1 (R1). -/
abbrev SlotIx := Fin 8

/-- The number the spec gives a zone. -/
def ZoneIx.number (z : ZoneIx) : Nat := z.val + 1

/-- The number the spec gives a tool slot. -/
def SlotIx.number (i : SlotIx) : Nat := i.val + 1

/-- A set of zones, carried as the membership of each of the twelve zones, zone 1 in the least
significant bit (10.5, DEFINE TOOL). -/
abbrev ZoneSet := BitVec 12

/-- A zone is in the set. -/
def ZoneSet.has (s : ZoneSet) (z : ZoneIx) : Bool := s.getLsb z

/-- All twelve zones, in number order. -/
def allZones : List ZoneIx := [0, 1, 2, 3, 4, 5, 6, 7, 8, 9, 10, 11]

/-- What a thermocouple channel delivers at a sample (R24): an open circuit, or a temperature in
tenths of a degree Celsius. -/
inductive Reading where
  | openCircuit
  | celsius (tenths : Int)
  deriving DecidableEq, Repr

/-- A byte as the UART receives it (R149): its value, and whether its stop bit was missing. -/
structure RxByte where
  value : Byte
  framingError : Bool
  deriving DecidableEq, Repr

end Sys2Proof
end

