-- ==== Sys2Proof/Syntax.lean ====
section
/-! DEFINITION. The commands of the block: one constructor per row of spec/opcode_table.json. A row of
a command telegram carries its guard byte and its body bytes (R148); a sample carries what its
converter delivers; a rising edge whose falling edge has no row carries the level its line is left at
(log 2). -/

namespace Sys2Proof

/-- The commands and events of the DNV412. -/
inductive Instr where
  /-- POWER_ON_RESET (R156), and the level the RESET pin is left at: released, or still held (log 2). -/
  | powerOnReset (levelAfter : Bool := false)
  /-- TELEGRAM_DISCARDED (R149): the bytes that arrive at the port, the last of which ends a telegram
  that the port discards. -/
  | telegramDiscarded (bytes : List RxByte)
  /-- INTER_BYTE_GAP_TIMEOUT (R149). -/
  | interByteGapTimeout
  /-- UNKNOWN_KIND (R151): a telegram whose kind byte names no command kind. -/
  | unknownKind (kind guard : Byte) (body : List Byte)
  /-- ANSWER_SENT (R150). -/
  | answerSent
  /-- IDENTIFY (R152). -/
  | identify (guard : Byte) (body : List Byte)
  /-- READ_STATUS (R152). -/
  | readStatus (guard : Byte) (body : List Byte)
  /-- READ_ZONE (R36). -/
  | readZone (guard : Byte) (body : List Byte)
  /-- READ_NOTICES (R157). -/
  | readNotices (guard : Byte) (body : List Byte)
  /-- SET_CLOCK (R153). -/
  | setClock (guard : Byte) (body : List Byte)
  /-- RESTART (R154). -/
  | restart (guard : Byte) (body : List Byte)
  /-- DEFINE_TOOL (R3). -/
  | defineTool (guard : Byte) (body : List Byte)
  /-- CLEAR_TOOL (R5). -/
  | clearTool (guard : Byte) (body : List Byte)
  /-- STAGE_RECIPE (R8). -/
  | stageRecipe (guard : Byte) (body : List Byte)
  /-- LOAD_RATES (R14). -/
  | loadRates (guard : Byte) (body : List Byte)
  /-- MOUNT (R17). -/
  | mount (guard : Byte) (body : List Byte)
  /-- UNMOUNT (R18). -/
  | unmount (guard : Byte) (body : List Byte)
  /-- SET_ZONE (R20). -/
  | setZone (guard : Byte) (body : List Byte)
  /-- SET_WINDOW (R55). -/
  | setWindow (guard : Byte) (body : List Byte)
  /-- SET_SUPPLY (R50). -/
  | setSupply (guard : Byte) (body : List Byte)
  /-- HEAT (R53). -/
  | heat (guard : Byte) (body : List Byte)
  /-- SET_STATION (R64). -/
  | setStation (guard : Byte) (body : List Byte)
  /-- ARM (R66). -/
  | arm (guard : Byte) (body : List Byte)
  /-- CAPTURE (R68). -/
  | capture (guard : Byte) (body : List Byte)
  /-- TARE (R75). -/
  | tare (guard : Byte) (body : List Byte)
  /-- SPAN (R76). -/
  | span (guard : Byte) (body : List Byte)
  /-- DISCARD (R86). -/
  | discard (guard : Byte) (body : List Byte)
  /-- LIST_CHARGES (R87). -/
  | listCharges (guard : Byte) (body : List Byte)
  /-- START (R98). -/
  | start (guard : Byte) (body : List Byte)
  /-- ABORT (R105). -/
  | abort (guard : Byte) (body : List Byte)
  /-- RETRY_EJECT (R133). -/
  | retryEject (guard : Byte) (body : List Byte)
  /-- ABANDON_EJECT (R134). -/
  | abandonEject (guard : Byte) (body : List Byte)
  /-- READ_PART (R145). -/
  | readPart (guard : Byte) (body : List Byte)
  /-- READ_OLDEST_PART (R145). -/
  | readOldestPart (guard : Byte) (body : List Byte)
  /-- RELEASE_PARTS (R146). -/
  | releaseParts (guard : Byte) (body : List Byte)
  /-- SET_SERIAL (R144). -/
  | setSerial (guard : Byte) (body : List Byte)
  /-- SECOND_ADVANCE (R153). -/
  | secondAdvance
  /-- CHARGE_EXPIRY (R84): the second advance at which some entry's deadline is reached. -/
  | chargeExpiry
  /-- ZONE_SAMPLE (R24). -/
  | zoneSample (zone : ZoneIx) (reading : Reading)
  /-- SETTLE_TIME_REACHED (R29): the sample at which the zone's settle timer reaches its settle time. -/
  | settleTimeReached (zone : ZoneIx) (reading : Reading)
  /-- ZONE_FAULT_ENTRY (R31): the sample that brings the zone's implausible run to 2. -/
  | zoneFaultEntry (zone : ZoneIx) (reading : Reading)
  /-- ZONE_RECOVERY (R32): the sample that brings a FAULT zone's plausible run to 8. -/
  | zoneRecovery (zone : ZoneIx) (reading : Reading)
  /-- WINDOW_START (R41). -/
  | windowStart
  /-- ON_TIME_END (R42). -/
  | onTimeEnd (zone : ZoneIx)
  /-- BRIDGE_SAMPLE (R60). -/
  | bridgeSample (count : BitVec 24)
  /-- CAPTURE_KEY_RISING (R68). -/
  | captureKeyRising (levelAfter : Bool)
  /-- CAPTURE_COMPLETE (R72): the bridge sample at which a waiting capture finds the load STEADY. -/
  | captureComplete (count : BitVec 24)
  /-- CAPTURE_TIMEOUT (R70). -/
  | captureTimeout
  /-- TARE_COMPLETE (R75): the sixteenth bridge sample of a tare. -/
  | tareComplete (count : BitVec 24)
  /-- SPAN_COMPLETE (R76): the sixteenth bridge sample of a span. -/
  | spanComplete (count : BitVec 24)
  /-- E_STOP_RISING (R106). -/
  | eStopRising
  /-- E_STOP_FALLING (R107). -/
  | eStopFalling
  /-- PRESS_CLOSED_RISING (R100). -/
  | pressClosedRising
  /-- PRESS_CLOSED_FALLING (R101). -/
  | pressClosedFalling
  /-- CLOSE_TIMEOUT (R100). -/
  | closeTimeout
  /-- CURE_SECOND (R114). -/
  | cureSecond
  /-- MAXIMUM_CURE_REACHED (R121): the cure second at which the elapsed cure reaches the maximum. -/
  | maximumCureReached
  /-- OPEN_OVERDUE (R102). -/
  | openOverdue
  /-- PRESS_OPEN_RISING (R102). -/
  | pressOpenRising (levelAfter : Bool)
  /-- EJECT_AT_FWD_RISING (R129). -/
  | ejectAtFwdRising (levelAfter : Bool)
  /-- EJECT_AT_BACK_RISING (R130). -/
  | ejectAtBackRising
  /-- EJECT_AT_BACK_FALLING (R99). -/
  | ejectAtBackFalling
  /-- EJECT_STALL (R131). -/
  | ejectStall
  /-- EJECT_JAM (R132). -/
  | ejectJam
  /-- TAKEOUT_CLEAR_RISING (R104). -/
  | takeoutClearRising (levelAfter : Bool)
  /-- SYNC_BYTE_RECEIVED (R149). -/
  | syncByteReceived
  deriving DecidableEq, Repr

end Sys2Proof
end

