-- ==== Sys2Proof/Decode.lean ====
section
/-! DEFINITION. The decoder over the rows of spec/opcode_table.json that give bits. No row of this
table gives any (each row's "fields" is empty and none has "fixed"), so no word spells a command. How
the bytes of a telegram spell a command is the line's own affair (Machine/Codec.lean, Machine/Line.lean). -/

namespace Sys2Proof

/-- The command that a word spells by the table's bits: none, for the table gives no bits. -/
def decodeTableWord (_nbits _w : Nat) : Option Instr := none

end Sys2Proof
end

