-- ==== Sys2Proof/Config.lean ====
section
/-! DEFINITION. What the spec fixes once for the part (capacities, ranges, codes), and the one value
the spec leaves open, as a constant without a body. -/

namespace Sys2Proof.Config

/-- Places of the charge queue (R79). -/
def queuePlaces : Nat := 12
/-- Places of the notice queue (R156). -/
def noticePlaces : Nat := 16
/-- Places of the part record ring (R139). -/
def ringPlaces : Nat := 48
/-- Notices one READ NOTICES reports at most (R157). -/
def noticesReported : Nat := 8
/-- Entries one LIST CHARGES reports at most (R87). -/
def chargesReported : Nat := 8
/-- Retries of one cycle's ejection (R133). -/
def maxRetries : Nat := 3

/-- The greatest part serial (09 R139, 00 Numbering). -/
def maxSerial : Nat := 4294967295
/-- The greatest value of an unsigned 32-bit counter or accumulator (R117, R153). -/
def max32 : Nat := 4294967295
/-- The greatest charge number and tool number (00 Numbering). -/
def max16 : Nat := 65535

/-- Vendor code "TZ" as two ASCII bytes (R152). -/
def vendorCode : List (BitVec 8) := [0x54, 0x5A]
/-- Part code (R152). -/
def partCode : Nat := 412
/-- Silicon revision (R152). -/
def siliconRevision : Nat := 3

/-- Sync byte of a command telegram (R148). -/
def commandSync : BitVec 8 := 0xC3
/-- Sync byte of an answer telegram (R148). -/
def answerSync : BitVec 8 := 0x3C
/-- Bounds of the length byte (R148). -/
def minLength : Nat := 2
def maxLength : Nat := 242

/-- Zone samples come every 250 ms (R24). -/
def zonePeriod : Nat := 250
/-- Bridge samples come every 20 ms (R60). -/
def bridgePeriod : Nat := 20
/-- Second advances and cure seconds come every 1000 ms (R153, R114). -/
def secondPeriod : Nat := 1000
/-- More than this between two bytes discards a telegram (R149). -/
def gapLimit : Nat := 20

/-- The lowest and highest temperature a converter delivers (00 Quantities, R24). -/
def minTemp : Int := -500
def maxTemp : Int := 4000

/-- The working band and settle time of a zone the mounted tool does not use (R22). -/
def standbyBand : Int := 30
def standbySettle : Nat := 0

/-- The fault age holds here (R19). -/
def maxFaultAge : Nat := 600000
/-- The stability timer holds here (R59). -/
def maxStability : Nat := 5000
/-- The integrator's ceiling (R39). -/
def maxIntegrator : Int := 64000
/-- Samples of one tare or span (R75). -/
def measurementSamples : Nat := 16
/-- The greatest span factor (R59, R76). -/
def maxSpan : Nat := 262143

/-- FREE VALUE (log 6). When several zones post a notice at one event, the spec gives no order among
them. The zones post in rising order of this rank; the first argument numbers the drawing. -/
opaque noticeRank : Nat → Nat → Nat

end Sys2Proof.Config
end

