-- ==== Sys2Proof/Machine/State.lean ====
section
/-! DEFINITION. The state of the DNV412, block by block, with its values after power-on or the RESET
pin. Plain data throughout. INVENTORY.md lists every item with the rule that names it. -/

namespace Sys2Proof.Machine

/-- What stops the machine. No rule of the spec stops the part (INVENTORY.md, Faults), so no meaning
raises a fault and the type has no constructor. Safe: there is nothing to raise. -/
inductive Fault where
  deriving DecidableEq, Repr

/-- Why a command has no meaning. -/
inductive Refusal where
  /-- Raised by an arm of exec whose row has no meaning yet; no arm raises it now. Safe: the machine
  stops where the part would go on. -/
  | notModelled (mnemonic : String)
  deriving DecidableEq, Repr

/-! ## Tool table (chapter 1) -/

/-- A zone entry of a recipe (R6, R7). -/
structure ZoneEntry where
  zone : ZoneIx
  setpoint : Int
  band : Int
  deriving DecidableEq, Repr

/-- A cavity entry of a recipe (R6, R7). -/
structure CavityEntry where
  target : Nat
  tolerance : Nat
  outTime : Nat
  deriving DecidableEq, Repr

/-- A recipe (R6, R7): the zone part, the cycle part and the cavity part. -/
structure Recipe where
  zones : List ZoneEntry
  settleTime : Nat
  rateTable : Fin 4
  baseDose : Nat
  massGain : Nat
  minCure : Nat
  maxCure : Nat
  closeTimeout : Nat
  openOverdue : Nat
  strokeCount : Nat
  strokeTimeout : Nat
  cavities : List CavityEntry
  deriving DecidableEq, Repr

/-- A tool definition held in a slot (R1). -/
structure Tool where
  number : Nat
  cavityCount : Nat
  cavityZones : Vector ZoneSet 4
  support : ZoneSet
  active : Option Recipe
  staged : Option Recipe
  revision : Nat
  deriving DecidableEq, Repr

/-- A point of a cure-rate table (R13). -/
structure RatePoint where
  temp : Int
  rate : Nat
  deriving DecidableEq, Repr

/-- A cure-rate table: sixteen points (R13). -/
abbrev RateTable := Vector RatePoint 16

/-! ## Platen zone monitor (chapter 2) -/

/-- The zone states, in the order their codes count (2.4, 10.6). -/
inductive ZoneState where
  | off | ramp | settling | settled | fault
  deriving DecidableEq, Repr

/-- The configuration items of a zone record (R19). -/
structure ZoneConfig where
  ratedPower : Nat
  lowLimit : Int
  highLimit : Int
  setpointMax : Int
  kp : Int
  ki : Int
  hotMargin : Int
  faultHold : Nat
  standby : Int
  exitHysteresis : Int
  deriving DecidableEq, Repr

/-- A zone record (R19). `sampled` says that a plausible sample has become the temperature since
power-on or the RESET pin (R25, R31); the stale mark is computed from it (Ops, `Zone.stale`). -/
structure Zone where
  config : ZoneConfig
  setpoint : Int
  band : Int
  settle : Nat
  temp : Int
  sampled : Bool
  staleKept : Bool
  state : ZoneState
  hot : Bool
  settleTimer : Nat
  implausible : Nat
  plausible : Nat
  faultAge : Nat
  deriving DecidableEq, Repr

/-! ## Heater drive (chapter 3) -/

/-- The common items of the heater drive (R39); the window elapsed time stands in `Timers`. -/
structure Drive where
  master : Bool
  windowSetting : Nat
  windowLength : Nat
  budget : Nat
  deriving DecidableEq, Repr

/-- The per-zone items of the heater drive (R39, and R42 for the on-time). -/
structure Heater where
  integrator : Int
  lastRequest : Nat
  lastGrant : Nat
  heldDuty : Nat
  onTime : Nat
  output : Bool
  deriving DecidableEq, Repr

/-! ## Charge scale (chapter 4) -/

/-- The load states, in the order their codes count (10.6). -/
inductive LoadState where
  | signalFault | empty | overload | steady | moving
  deriving DecidableEq, Repr

/-- The capture states (R59). -/
inductive CaptureState where
  | idle | waiting | held | measuring
  deriving DecidableEq, Repr

/-- The station configuration (R64). -/
structure Station where
  emptyThreshold : Int
  capacity : Int
  band : Int
  time : Nat
  captureTimeout : Nat
  deriving DecidableEq, Repr

/-- The arming record (R66). -/
structure Arming where
  cavity : Nat
  lot : Option (List Byte)
  ply : Option Nat
  deriving DecidableEq, Repr

/-- The capture snapshot (R68). -/
structure Snapshot where
  cavity : Nat
  lot : Option (List Byte)
  ply : Option Nat
  target : Nat
  tolerance : Nat
  outTime : Nat
  timeout : Nat
  deriving DecidableEq, Repr

/-- The kinds of measurement (R75, R76); a span carries its reference mass. -/
inductive MeasureKind where
  | tare
  | span (reference : Nat)
  deriving DecidableEq, Repr

/-- A measurement in progress (R59, R75, R76). -/
structure Measurement where
  kind : MeasureKind
  taken : Nat
  sum : Int
  deriving DecidableEq, Repr

/-- The charge scale (R59); the capture timer stands in `Timers`. -/
structure Scale where
  zero : Int
  span : Int
  station : Station
  reference : Int
  stabilityTimer : Nat
  load : LoadState
  capture : CaptureState
  arming : Option Arming
  snapshot : Option Snapshot
  measurement : Option Measurement
  accept : Bool
  reject : Bool
  nextCharge : Nat
  deriving DecidableEq, Repr

/-! ## Charge queue (chapter 5) -/

/-- A charge entry (R79). -/
structure ChargeEntry where
  number : Nat
  cavity : Nat
  mass : Nat
  lot : Option (List Byte)
  ply : Option Nat
  captureTime : Nat
  deadline : Nat
  deriving DecidableEq, Repr

/-! ## Cycle controller (chapter 6) -/

/-- The cycle states, in the order their codes count (R93, 10.6). -/
inductive CycleState where
  | noTool | standby | ready | loading | curing | release | ejecting | takeout
  deriving DecidableEq, Repr

/-- The set of ready reasons (R93, R94). -/
structure ReadyReasons where
  heatOff : Bool
  estop : Bool
  notSettled : Bool
  noCharge : Bool
  ringFull : Bool
  serialSpent : Bool
  deriving DecidableEq, Repr

/-- The cycle controller (R93); the close and open timers stand in `Timers`. -/
structure Cycle where
  state : CycleState
  mounted : Option SlotIx
  reasons : ReadyReasons
  ready : Bool
  clean : Bool
  overduePosted : Bool
  closePermit : Bool
  openPermit : Bool
  deriving DecidableEq, Repr

/-! ## Cure integrator (chapter 7) -/

/-- The phases of the integrator (R111). -/
inductive CurePhase where
  | idle | pending | accumulating | ended
  deriving DecidableEq, Repr

/-- The integrator's figures for one cavity (R111); `extremes` is the pair lowest and highest. -/
structure CavityCure where
  required : Nat
  dose : Nat
  extremes : Option (Int × Int)
  deriving DecidableEq, Repr

/-- The cure integrator (R111). The cavity count is the length of `cavities`, absent (no cavities) in
IDLE; the cure timer stands in `Timers`. -/
structure Cure where
  phase : CurePhase
  elapsed : Nat
  cavities : List CavityCure
  deriving DecidableEq, Repr

/-! ## Ejector sequencer (chapter 8) -/

/-- The ejector sub-states, in the order their codes count (R127, 10.6). -/
inductive EjectSub where
  | idle | extending | retracting | stalled | jammed
  deriving DecidableEq, Repr

/-- The ejector sequencer (R127); the stroke timer stands in `Timers`. -/
structure Ejector where
  sub : EjectSub
  stalledMark : Bool
  abandonPending : Bool
  strokes : Nat
  retries : Nat
  fwd : Bool
  deriving DecidableEq, Repr

/-! ## Part record ring (chapter 9) -/

/-- The fault codes, in the order of the fault table of 9.4. -/
inductive FaultCode where
  | notSettledAtStart | closeTimeout | abort | estop | openedEarly | tempExcursion | sensorLost
  | noGoverningSensor | undercure | ejectStall | ejectJam | restart
  deriving DecidableEq, Repr

/-- A fault set, carried as twelve bits in the order of the fault table (10.6). -/
abbrev FaultSet := BitVec 12

/-- The outcomes, in the order their codes count (R138, 10.6). -/
inductive PartOutcome where
  | good | undercured | aborted | ejectAbandoned
  deriving DecidableEq, Repr

/-- A cavity entry of a part record (R138). -/
structure RecordCavity where
  charge : Nat
  mass : Nat
  lot : Option (List Byte)
  ply : Option Nat
  required : Nat
  achieved : Nat
  deriving DecidableEq, Repr

/-- A part record (R138). `opened` is the state OPEN; `tg` is the pair Tg min and Tg max. -/
structure PartRecord where
  serial : Nat
  opened : Bool
  toolNumber : Nat
  slot : SlotIx
  revision : Nat
  startTime : Nat
  closeTime : Option Nat
  releaseTime : Option Nat
  takeoutTime : Option Nat
  cureDuration : Nat
  cavities : List RecordCavity
  tg : Option (Int × Int)
  strokes : Nat
  retries : Nat
  outcome : PartOutcome
  faults : FaultSet
  verdict : Bool
  deriving DecidableEq, Repr

/-- The part record ring (R139): the records, oldest first, and the next serial, absent when spent. -/
structure Ring where
  records : List PartRecord
  nextSerial : Option Nat
  deriving DecidableEq, Repr

/-! ## Telegram port, notices and clocks (chapter 10) -/

/-- The answer statuses, in the order their codes count (10.6). -/
inductive Status where
  | done | doneClamped | passed | badGuard | unknownKind | badLength | badValue | wrongState
  | unknownTool | noRecipe | tableFull | inUse | notFound | notArmed | noCharge | notSettled
  | heatOff | halted | ringFull | serialSpent
  deriving DecidableEq, Repr

/-- An answer telegram before framing (R148): the kind byte it echoes, its status, its body. -/
structure Answer where
  kind : Byte
  status : Status
  body : List Byte
  deriving DecidableEq, Repr

/-- The receive state of the port (R149). In RECEIVING the buffer holds the bytes after the sync byte. -/
inductive Receive where
  | hunting
  | receiving (buffer : List Byte)
  deriving DecidableEq, Repr

/-- The telegram port (R149, R150, R154). -/
structure Port where
  receive : Receive
  answerOwed : Bool
  answer : Option Answer
  restartTaken : Bool
  deriving DecidableEq, Repr

/-- The notice kinds, in the order their codes count (10.6). -/
inductive NoticeKind where
  | powerUp | restarted | zoneFault | zoneRecovered | zoneHot | tareDone | spanDone | spanFailed
  | chargeAdmitted | chargeRejected | queueFull | captureFailed | chargeExpired | chargesDropped
  | recipePromoted | closeOverdue | cureMet | undercured | openOverdue | ejectStall | ejectJam
  | estop | partClosed
  deriving DecidableEq, Repr

/-- The subject of a notice with its kind (R155). -/
inductive Subject where
  | absent
  | zone (number : Nat)
  | cavity (number : Nat)
  | charge (number : Nat)
  | serial (number : Nat)
  deriving DecidableEq, Repr

/-- A notice (R155). -/
structure Notice where
  kind : NoticeKind
  time : Nat
  subject : Subject
  value : Option Int
  deriving DecidableEq, Repr

/-- The notice queue, its lapsed marker and the ATTN output (R156). -/
structure NoticeQueue where
  list : List Notice
  lapsed : Bool
  attn : Bool
  deriving DecidableEq, Repr

/-- The part clock and the run seconds (R153). -/
structure Clocks where
  part : Nat
  run : Nat
  deriving DecidableEq, Repr

/-- The levels of the discrete inputs (00 Lines): true is asserted. `resetPin` is the RESET line, asserted
while the pin is held (R156). -/
structure Inputs where
  resetPin : Bool
  eStop : Bool
  pressClosed : Bool
  pressOpen : Bool
  ejectAtFwd : Bool
  ejectAtBack : Bool
  takeoutClear : Bool
  captureKey : Bool
  deriving DecidableEq, Repr

/-- The ms timers of all blocks: window elapsed time (R39), close and open timers (R93), stroke timer
(R127), capture timer (R59), cure timer (R111), time since the last received byte (R149), and the time
since the last sample of each zone (R24), the last bridge sample (R60) and the last second advance
(R153). -/
structure Timers where
  window : Nat
  close : Nat
  opening : Nat
  stroke : Nat
  capture : Nat
  cure : Nat
  gap : Nat
  bridge : Nat
  second : Nat
  zone : Vector Nat 12
  deriving DecidableEq, Repr

/-- The whole state of the part. `pending` and `draws` are the model's own: the commands that wait,
oldest first, and how many free orders have been drawn (log 6). -/
structure State where
  tools : Vector (Option Tool) 8
  rates : Vector RateTable 4
  zones : Vector Zone 12
  drive : Drive
  heaters : Vector Heater 12
  scale : Scale
  queue : List ChargeEntry
  cycle : Cycle
  cure : Cure
  ejector : Ejector
  ring : Ring
  port : Port
  notices : NoticeQueue
  clocks : Clocks
  inputs : Inputs
  timers : Timers
  draws : Nat
  pending : List Instr
  deriving DecidableEq, Repr

/-! ## Values after power-on or the RESET pin -/

/-- R19. -/
def ZoneConfig.reset : ZoneConfig where
  ratedPower := 6000
  lowLimit := -200
  highLimit := 3200
  setpointMax := 2200
  kp := 32
  ki := 4
  hotMargin := 250
  faultHold := 30
  standby := 0
  exitHysteresis := 10

/-- R19. -/
def Zone.reset : Zone where
  config := ZoneConfig.reset
  setpoint := 0
  band := Config.standbyBand
  settle := Config.standbySettle
  temp := 0
  sampled := false
  staleKept := false
  state := .off
  hot := false
  settleTimer := 0
  implausible := 0
  plausible := 0
  faultAge := 0

/-- R39. -/
def Drive.reset : Drive where
  master := false
  windowSetting := 2000
  windowLength := 2000
  budget := 0

/-- R39. -/
def Heater.reset : Heater where
  integrator := 0
  lastRequest := 0
  lastGrant := 0
  heldDuty := 0
  onTime := 0
  output := false

/-- R64. -/
def Station.reset : Station where
  emptyThreshold := 200
  capacity := 50000
  band := 5
  time := 600
  captureTimeout := 5000

/-- R59. -/
def Scale.reset : Scale where
  zero := 0
  span := 6554
  station := Station.reset
  reference := 0
  stabilityTimer := 0
  load := .empty
  capture := .idle
  arming := none
  snapshot := none
  measurement := none
  accept := false
  reject := false
  nextCharge := 1

/-- No ready reason holds. -/
def ReadyReasons.none : ReadyReasons where
  heatOff := false
  estop := false
  notSettled := false
  noCharge := false
  ringFull := false
  serialSpent := false

/-- R93. -/
def Cycle.reset : Cycle where
  state := .noTool
  mounted := Option.none
  reasons := ReadyReasons.none
  ready := false
  clean := false
  overduePosted := false
  closePermit := false
  openPermit := false

/-- R111. -/
def Cure.reset : Cure where
  phase := .idle
  elapsed := 0
  cavities := []

/-- R127. -/
def Ejector.reset : Ejector where
  sub := .idle
  stalledMark := false
  abandonPending := false
  strokes := 0
  retries := 0
  fwd := false

/-- R139. -/
def Ring.reset : Ring where
  records := []
  nextSerial := some 1

/-- R149, R150. -/
def Port.reset : Port where
  receive := .hunting
  answerOwed := false
  answer := none
  restartTaken := false

/-- R156: POWER_UP is queued, so ATTN is asserted. -/
def NoticeQueue.reset : NoticeQueue where
  list := [⟨.powerUp, 0, .absent, none⟩]
  lapsed := false
  attn := true

/-- R153. -/
def Clocks.reset : Clocks where
  part := 0
  run := 0

/-- DESIGN CHOICE (log 2): the lines are driven from outside; in `State.reset` all are negated. -/
def Inputs.reset : Inputs where
  resetPin := false
  eStop := false
  pressClosed := false
  pressOpen := false
  ejectAtFwd := false
  ejectAtBack := false
  takeoutClear := false
  captureKey := false

/-- R39, R59, R93, R111, R127 give 0 for the timers they name; the periods begin at reset (R24, R60,
R153; log 4). -/
def Timers.reset : Timers where
  window := 0
  close := 0
  opening := 0
  stroke := 0
  capture := 0
  cure := 0
  gap := 0
  bridge := 0
  second := 0
  zone := Vector.replicate 12 0

/-- The part right after power-on or the RESET pin. -/
def State.reset : State where
  tools := Vector.replicate 8 none
  rates := Vector.replicate 4 (Vector.replicate 16 ⟨0, 0⟩)
  zones := Vector.replicate 12 Zone.reset
  drive := Drive.reset
  heaters := Vector.replicate 12 Heater.reset
  scale := Scale.reset
  queue := []
  cycle := Cycle.reset
  cure := Cure.reset
  ejector := Ejector.reset
  ring := Ring.reset
  port := Port.reset
  notices := NoticeQueue.reset
  clocks := Clocks.reset
  inputs := Inputs.reset
  timers := Timers.reset
  draws := 0
  pending := []

/-! ## One update for each field -/

/-- The state with another tool table. -/
def State.setTools (s : State) (v : Vector (Option Tool) 8) : State := { s with tools := v }
/-- The state with other rate tables. -/
def State.setRates (s : State) (v : Vector RateTable 4) : State := { s with rates := v }
/-- The state with other zone records. -/
def State.setZones (s : State) (v : Vector Zone 12) : State := { s with zones := v }
/-- The state with other common items of the heater drive. -/
def State.setDrive (s : State) (v : Drive) : State := { s with drive := v }
/-- The state with other heater records. -/
def State.setHeaters (s : State) (v : Vector Heater 12) : State := { s with heaters := v }
/-- The state with another charge scale. -/
def State.setScale (s : State) (v : Scale) : State := { s with scale := v }
/-- The state with another charge queue. -/
def State.setQueue (s : State) (v : List ChargeEntry) : State := { s with queue := v }
/-- The state with another cycle controller. -/
def State.setCycle (s : State) (v : Cycle) : State := { s with cycle := v }
/-- The state with another cure integrator. -/
def State.setCure (s : State) (v : Cure) : State := { s with cure := v }
/-- The state with another ejector sequencer. -/
def State.setEjector (s : State) (v : Ejector) : State := { s with ejector := v }
/-- The state with another part record ring. -/
def State.setRing (s : State) (v : Ring) : State := { s with ring := v }
/-- The state with another telegram port. -/
def State.setPort (s : State) (v : Port) : State := { s with port := v }
/-- The state with another notice queue. -/
def State.setNotices (s : State) (v : NoticeQueue) : State := { s with notices := v }
/-- The state with other clocks. -/
def State.setClocks (s : State) (v : Clocks) : State := { s with clocks := v }
/-- The state with other input levels. -/
def State.setInputs (s : State) (v : Inputs) : State := { s with inputs := v }
/-- The state with other timers. -/
def State.setTimers (s : State) (v : Timers) : State := { s with timers := v }
/-- The state with another count of drawings. -/
def State.setDraws (s : State) (v : Nat) : State := { s with draws := v }
/-- The state with another queue of waiting commands. -/
def State.setPending (s : State) (v : List Instr) : State := { s with pending := v }

end Sys2Proof.Machine
end

