-- ==== Sys2Proof/Machine/Codec.lean ====
section
/-! DEFINITION. How the telegram line carries things: byte order (R148), the CRC and the framing of
telegrams (R148), the port's receive states (R149), and the codes of 10.5 and 10.6. -/

namespace Sys2Proof.Machine

/-! ## Byte order: high byte first, signed fields in two's complement (R148) -/

/-- One byte holding a number. -/
def byte (n : Nat) : Byte := BitVec.ofNat 8 n

/-- A two-byte field. -/
def be16 (n : Nat) : List Byte := [byte (n / 256), byte n]

/-- A four-byte field. -/
def be32 (n : Nat) : List Byte := [byte (n / 16777216), byte (n / 65536), byte (n / 256), byte n]

/-- A signed two-byte field. -/
def be16s (i : Int) : List Byte := be16 (BitVec.ofInt 16 i).toNat

/-- A signed four-byte field. -/
def be32s (i : Int) : List Byte := be32 (BitVec.ofInt 32 i).toNat

/-- A flag: 1 for true, set, on or asserted, and 0 otherwise (10.6). -/
def flag (b : Bool) : Byte := if b then 1 else 0

/-- The byte at a place of a body, 0 beyond its end (every rule tests the length first). -/
def u8 (body : List Byte) (i : Nat) : Nat := (body.getD i 0).toNat

/-- The two-byte field at a place of a body. -/
def u16 (body : List Byte) (i : Nat) : Nat := u8 body i * 256 + u8 body (i + 1)

/-- The four-byte field at a place of a body. -/
def u32 (body : List Byte) (i : Nat) : Nat := u16 body i * 65536 + u16 body (i + 2)

/-- The signed two-byte field at a place of a body. -/
def s16 (body : List Byte) (i : Nat) : Int :=
  if u16 body i < 32768 then (u16 body i : Int) else (u16 body i : Int) - 65536

/-! ## The CRC: polynomial 1021h, initial value FFFFh, no reflection, no final inversion (R148) -/

/-- One bit of the CRC. -/
def crcBit (c : BitVec 16) : BitVec 16 := if c.msb then (c <<< 1) ^^^ 0x1021#16 else c <<< 1

/-- One byte of the CRC. -/
def crcByte (c : BitVec 16) (b : Byte) : BitVec 16 :=
  crcBit (crcBit (crcBit (crcBit (crcBit (crcBit (crcBit (crcBit (c ^^^ (b.zeroExtend 16 <<< 8)))))))))

/-- The CRC over bytes. -/
def crc16 (bytes : List Byte) : BitVec 16 := bytes.foldl crcByte 0xFFFF#16

/-! ## Framing (R148) -/

/-- The bytes the CRC covers: length, kind, guard or status, body. -/
def frameContent (kind second : Byte) (body : List Byte) : List Byte :=
  byte (body.length + 2) :: kind :: second :: body

/-- The bytes of a telegram after its sync byte. -/
def frameRest (kind second : Byte) (body : List Byte) : List Byte :=
  frameContent kind second body ++ be16 (crc16 (frameContent kind second body)).toNat

/-- A command telegram. -/
def commandTelegram (kind guard : Byte) (body : List Byte) : List Byte :=
  Config.commandSync :: frameRest kind guard body

/-! ## Receiving (R149) -/

/-- What a received byte makes of the port: it goes on receiving or hunting, or a telegram is
complete. -/
inductive Received where
  | goesOn (receive : Receive)
  | complete (kind guard : Byte) (body : List Byte)
  deriving DecidableEq, Repr

/-- The bytes after the sync byte are all there: the telegram is complete if the CRC agrees, and
discarded otherwise. -/
def judgeTelegram (length : Byte) (rest : List Byte) : Received :=
  if rest.drop length.toNat = be16 (crc16 (length :: rest.take length.toNat)).toNat then
    match rest.take length.toNat with
    | kind :: guard :: body => .complete kind guard body
    | _ => .goesOn .hunting
  else .goesOn .hunting

/-- The bytes after the sync byte so far: the length byte is judged at once, and the telegram when the
bytes it declares and the two CRC bytes are there. -/
def judgeBuffer (buffer : List Byte) : Received :=
  match buffer with
  | [] => .goesOn (.receiving [])
  | length :: rest =>
    if length.toNat < Config.minLength ∨ Config.maxLength < length.toNat then .goesOn .hunting
    else if rest.length < length.toNat + 2 then .goesOn (.receiving buffer)
    else judgeTelegram length rest

/-- What a byte makes of the receive state it is judged in (R149). -/
def receiveByte (r : Receive) (b : RxByte) : Received :=
  if b.framingError then .goesOn .hunting
  else
    match r with
    | .hunting => .goesOn (if b.value = Config.commandSync then .receiving [] else .hunting)
    | .receiving buffer => judgeBuffer (buffer ++ [b.value])

/-! ## Codes (10.5, 10.6) -/

/-- Status codes. -/
def Status.code : Status → Nat
  | .done => 0 | .doneClamped => 1 | .passed => 2 | .badGuard => 3 | .unknownKind => 4
  | .badLength => 5 | .badValue => 6 | .wrongState => 7 | .unknownTool => 8 | .noRecipe => 9
  | .tableFull => 10 | .inUse => 11 | .notFound => 12 | .notArmed => 13 | .noCharge => 14
  | .notSettled => 15 | .heatOff => 16 | .halted => 17 | .ringFull => 18 | .serialSpent => 19

/-- Cycle state codes. -/
def CycleState.code : CycleState → Nat
  | .noTool => 0 | .standby => 1 | .ready => 2 | .loading => 3 | .curing => 4 | .release => 5
  | .ejecting => 6 | .takeout => 7

/-- Zone state codes. -/
def ZoneState.code : ZoneState → Nat
  | .off => 0 | .ramp => 1 | .settling => 2 | .settled => 3 | .fault => 4

/-- Load state codes. -/
def LoadState.code : LoadState → Nat
  | .signalFault => 0 | .empty => 1 | .overload => 2 | .steady => 3 | .moving => 4

/-- Capture state codes. -/
def CaptureState.code : CaptureState → Nat
  | .idle => 0 | .waiting => 1 | .held => 2 | .measuring => 3

/-- Outcome codes. -/
def PartOutcome.code : PartOutcome → Nat
  | .good => 0 | .undercured => 1 | .aborted => 2 | .ejectAbandoned => 3

/-- Ejector sub-state codes. -/
def EjectSub.code : EjectSub → Nat
  | .idle => 0 | .extending => 1 | .retracting => 2 | .stalled => 3 | .jammed => 4

/-- The bit of a fault code in the fault set. -/
def FaultCode.bit : FaultCode → Nat
  | .notSettledAtStart => 0 | .closeTimeout => 1 | .abort => 2 | .estop => 3 | .openedEarly => 4
  | .tempExcursion => 5 | .sensorLost => 6 | .noGoverningSensor => 7 | .undercure => 8
  | .ejectStall => 9 | .ejectJam => 10 | .restart => 11

/-- Notice kind codes, 1 to 23. -/
def NoticeKind.code : NoticeKind → Nat
  | .powerUp => 1 | .restarted => 2 | .zoneFault => 3 | .zoneRecovered => 4 | .zoneHot => 5
  | .tareDone => 6 | .spanDone => 7 | .spanFailed => 8 | .chargeAdmitted => 9
  | .chargeRejected => 10 | .queueFull => 11 | .captureFailed => 12 | .chargeExpired => 13
  | .chargesDropped => 14 | .recipePromoted => 15 | .closeOverdue => 16 | .cureMet => 17
  | .undercured => 18 | .openOverdue => 19 | .ejectStall => 20 | .ejectJam => 21 | .estop => 22
  | .partClosed => 23

/-- Subject kind codes. -/
def Subject.code : Subject → Nat
  | .absent => 0 | .zone _ => 1 | .cavity _ => 2 | .charge _ => 3 | .serial _ => 4

/-- The subject's number, 0 when absent. -/
def Subject.number : Subject → Nat
  | .absent => 0 | .zone n => n | .cavity n => n | .charge n => n | .serial n => n

/-- The numbering R70 gives the load state in a CAPTURE_FAILED notice. STEADY has none: a STEADY
sample would have completed the capture. -/
def LoadState.failureValue : LoadState → Option Int
  | .empty => some 0 | .moving => some 1 | .overload => some 2 | .signalFault => some 3
  | .steady => none

/-- The answer telegram on the line (R148). -/
def Answer.bytes (a : Answer) : List Byte :=
  Config.answerSync :: frameRest a.kind (byte a.status.code) a.body

end Sys2Proof.Machine
end

