-- ==== Sys2Proof/Machine/Operands.lean ====
section
/-! DEFINITION. The fields of the command bodies (10.5): every body form, read into the values the
rules speak of, and the range each field must lie in. Lengths are tested by the rules themselves. -/

namespace Sys2Proof.Machine

/-- DEFINE TOOL: the zone set at a place of the body; sixteen bits of which the first twelve are zones. -/
def zoneSetAt (body : List Byte) (i : Nat) : ZoneSet := BitVec.ofNat 12 (u16 body i)

/-- DEFINE TOOL: the zone set at a place names only zones 1 to 12 (R3 test 4). -/
def zoneSetInRange (body : List Byte) (i : Nat) : Bool := decide (u16 body i < 4096)

/-- DEFINE TOOL: the four cavity zone sets. -/
def cavitySetsOf (body : List Byte) : Vector ZoneSet 4 :=
  #v[zoneSetAt body 3, zoneSetAt body 5, zoneSetAt body 7, zoneSetAt body 9]

/-- DEFINE TOOL: the tool a body defines, with no recipe and revision 0 (R4). -/
def toolOf (body : List Byte) : Tool where
  number := u16 body 0
  cavityCount := u8 body 2
  cavityZones := cavitySetsOf body
  support := zoneSetAt body 11
  active := none
  staged := none
  revision := 0

/-- DEFINE TOOL: tests 2 to 7 of R3, in their order; all of them answer BAD_VALUE. -/
def toolInRange (body : List Byte) : Bool :=
  let t := toolOf body
  let n := t.cavityCount
  decide (t.number ≠ 0) && decide (1 ≤ n ∧ n ≤ 4)
  && [3, 5, 7, 9, 11].all (zoneSetInRange body)
  && [0, 1, 2, 3].all (fun c : Fin 4 => if c.val < n then decide (t.cavityZones[c] ≠ 0) else decide (t.cavityZones[c] = 0))
  && [0, 1, 2, 3].all (fun c : Fin 4 => decide (t.support &&& t.cavityZones[c] = 0))

/-- STAGE RECIPE: the two declared entry counts. -/
def zoneCountOf (body : List Byte) : Nat := u8 body 20
def cavityCountOf (body : List Byte) : Nat := u8 body 21

/-- STAGE RECIPE: the place of a zone entry and of a cavity entry. -/
def zoneEntryAt (k : Nat) : Nat := 22 + 5 * k
def cavityEntryAt (body : List Byte) (k : Nat) : Nat := 22 + 5 * zoneCountOf body + 6 * k

/-- STAGE RECIPE: the body holds the cycle part and the counts, and its length agrees with them (R8). -/
def recipeLengthAgrees (body : List Byte) : Bool :=
  decide (22 ≤ body.length ∧ body.length = 22 + 5 * zoneCountOf body + 6 * cavityCountOf body)

/-- STAGE RECIPE: the zone numbers of the zone list, in their order. -/
def recipeZoneNumbers (body : List Byte) : List Nat :=
  (List.range (zoneCountOf body)).map (fun k => u8 body (zoneEntryAt k))

/-- STAGE RECIPE: the zone list names each used zone once and nothing else (R6). -/
def recipeZonesFit (used : ZoneSet) (body : List Byte) : Bool :=
  (recipeZoneNumbers body).all (fun n => decide (1 ≤ n ∧ n ≤ 12) && used.getLsbD (n - 1))
  && decide (recipeZoneNumbers body).Nodup
  && allZones.all (fun z => !ZoneSet.has used z || (recipeZoneNumbers body).contains z.number)

/-- STAGE RECIPE: every field lies in its range; a setpoint above its zone's maximum is not out of
range but clamped (R7). -/
def recipeFieldsFit (body : List Byte) : Bool :=
  decide (u16 body 2 ≤ 3600) && decide (u8 body 4 ≤ 3)
  && decide (1 ≤ u16 body 5) && decide (u16 body 7 ≤ 1000)
  && decide (10 ≤ u16 body 9 ∧ u16 body 9 ≤ 3600)
  && decide (10 ≤ u16 body 11 ∧ u16 body 11 ≤ 3600 ∧ u16 body 9 ≤ u16 body 11)
  && decide (5 ≤ u16 body 13 ∧ u16 body 13 ≤ 600) && decide (5 ≤ u16 body 15 ∧ u16 body 15 ≤ 600)
  && decide (1 ≤ u8 body 17 ∧ u8 body 17 ≤ 4) && decide (200 ≤ u16 body 18 ∧ u16 body 18 ≤ 10000)
  && (List.range (zoneCountOf body)).all (fun k =>
      decide (0 ≤ s16 body (zoneEntryAt k + 1))
      && decide (5 ≤ u16 body (zoneEntryAt k + 3) ∧ u16 body (zoneEntryAt k + 3) ≤ 500))
  && (List.range (cavityCountOf body)).all (fun k =>
      decide (1 ≤ u16 body (cavityEntryAt body k) ∧ u16 body (cavityEntryAt body k) ≤ 65000)
      && decide (u16 body (cavityEntryAt body k + 2) ≤ 5000)
      && decide (1 ≤ u16 body (cavityEntryAt body k + 4) ∧ u16 body (cavityEntryAt body k + 4) ≤ 1440))

/-- STAGE RECIPE: the setpoint of zone entry k, clamped to its zone's setpoint maximum (R7). -/
def recipeSetpoint (zones : Vector Zone 12) (body : List Byte) (k : Nat) : Int :=
  min (s16 body (zoneEntryAt k + 1)) (zones[Fin.ofNat 12 (u8 body (zoneEntryAt k) - 1)].config.setpointMax)

/-- STAGE RECIPE: some setpoint is clamped (R7). -/
def recipeClamps (zones : Vector Zone 12) (body : List Byte) : Bool :=
  (List.range (zoneCountOf body)).any (fun k =>
    decide (recipeSetpoint zones body k < s16 body (zoneEntryAt k + 1)))

/-- STAGE RECIPE: the recipe a body carries, with its setpoints clamped. -/
def recipeOf (zones : Vector Zone 12) (body : List Byte) : Recipe where
  zones := (List.range (zoneCountOf body)).map (fun k =>
    ⟨Fin.ofNat 12 (u8 body (zoneEntryAt k) - 1), recipeSetpoint zones body k, u16 body (zoneEntryAt k + 3)⟩)
  settleTime := u16 body 2
  rateTable := Fin.ofNat 4 (u8 body 4)
  baseDose := u16 body 5
  massGain := u16 body 7
  minCure := u16 body 9
  maxCure := u16 body 11
  closeTimeout := u16 body 13
  openOverdue := u16 body 15
  strokeCount := u8 body 17
  strokeTimeout := u16 body 18
  cavities := (List.range (cavityCountOf body)).map (fun k =>
    ⟨u16 body (cavityEntryAt body k), u16 body (cavityEntryAt body k + 2), u16 body (cavityEntryAt body k + 4)⟩)

/-- LOAD RATES: point k of the table carried. -/
def ratePointAt (body : List Byte) (k : Nat) : RatePoint := ⟨s16 body (1 + 4 * k), u16 body (3 + 4 * k)⟩

/-- LOAD RATES: the table carried. -/
def rateTableOf (body : List Byte) : RateTable := Vector.ofFn (fun k => ratePointAt body k.val)

/-- LOAD RATES: the index and every temperature lie in range, and the temperatures rise strictly (R14). -/
def ratesInRange (body : List Byte) : Bool :=
  decide (u8 body 0 ≤ 3)
  && (List.range 16).all (fun k => decide (Config.minTemp ≤ (ratePointAt body k).temp ∧ (ratePointAt body k).temp ≤ Config.maxTemp))
  && (List.range 15).all (fun k => decide ((ratePointAt body k).temp < (ratePointAt body (k + 1)).temp))

/-- SET ZONE: the configuration carried, in the order of R19. -/
def zoneConfigOf (body : List Byte) : ZoneConfig where
  ratedPower := u16 body 1
  lowLimit := s16 body 3
  highLimit := s16 body 5
  setpointMax := u16 body 7
  kp := u8 body 9
  ki := u8 body 10
  hotMargin := u16 body 11
  faultHold := u16 body 13
  standby := u16 body 15
  exitHysteresis := u16 body 17

/-- SET ZONE: tests 3 to 5 of R20. -/
def zoneConfigInRange (c : ZoneConfig) : Bool :=
  decide (c.ratedPower ≤ 20000)
  && decide (Config.minTemp ≤ c.lowLimit ∧ c.lowLimit ≤ Config.maxTemp)
  && decide (Config.minTemp ≤ c.highLimit ∧ c.highLimit ≤ Config.maxTemp)
  && decide (0 ≤ c.setpointMax ∧ c.setpointMax ≤ 2800)
  && decide (0 ≤ c.kp ∧ c.kp ≤ 255) && decide (0 ≤ c.ki ∧ c.ki ≤ 255)
  && decide (10 ≤ c.hotMargin ∧ c.hotMargin ≤ 1000) && decide (c.faultHold ≤ 600)
  && decide (0 ≤ c.standby) && decide (0 ≤ c.exitHysteresis ∧ c.exitHysteresis ≤ 200)
  && decide (c.lowLimit < c.highLimit) && decide (c.standby ≤ c.setpointMax)

/-- SET STATION: the configuration carried, in the order of R64. -/
def stationOf (body : List Byte) : Station where
  emptyThreshold := u16 body 0
  capacity := u16 body 2
  band := u16 body 4
  time := u16 body 6
  captureTimeout := u16 body 8

/-- SET STATION: every item in its range, and the empty threshold below the capacity (R64). -/
def stationInRange (c : Station) : Bool :=
  decide (10 ≤ c.emptyThreshold ∧ c.emptyThreshold ≤ 5000)
  && decide (1000 ≤ c.capacity ∧ c.capacity ≤ 65000) && decide (1 ≤ c.band ∧ c.band ≤ 500)
  && decide (100 ≤ c.time ∧ c.time ≤ 5000)
  && decide (500 ≤ c.captureTimeout ∧ c.captureTimeout ≤ 30000)
  && decide (c.emptyThreshold < c.capacity)

/-- ARM: the declared lot length, and whether a ply count follows the lot characters. -/
def lotLengthOf (body : List Byte) : Nat := u8 body 1
def plyGiven (body : List Byte) : Bool := decide (body.length = 3 + lotLengthOf body)

/-- ARM: the body length agrees with its declared lot length and ply presence (R66 test 1). -/
def armLengthAgrees (body : List Byte) : Bool :=
  decide (2 ≤ body.length ∧ (body.length = 2 + lotLengthOf body ∨ body.length = 3 + lotLengthOf body))

/-- ARM: the record carried; a lot length of 0 is an absent lot. -/
def armingOf (body : List Byte) : Arming where
  cavity := u8 body 0
  lot := if lotLengthOf body = 0 then none else some ((body.drop 2).take (lotLengthOf body))
  ply := if plyGiven body then some (u8 body (2 + lotLengthOf body)) else none

/-- ARM: a lot text has 1 to 12 characters, each from 20h to 7Eh (R66 test 4). -/
def lotInRange : Option (List Byte) → Bool
  | none => true
  | some l => decide (1 ≤ l.length ∧ l.length ≤ 12) && l.all (fun b => decide (0x20 ≤ b.toNat ∧ b.toNat ≤ 0x7E))

/-- ARM: a ply count is 1 to 99 (R66 test 5). -/
def plyInRange : Option Nat → Bool
  | none => true
  | some p => decide (1 ≤ p ∧ p ≤ 99)

/-- SET WINDOW: the permitted setting nearest a value; midway goes to the higher multiple (R55). -/
def permittedWindow (w : Nat) : Nat :=
  if w < 500 then 500 else if 8000 < w then 8000 else (w + 125) / 250 * 250

/-- SET SUPPLY: the budget stored for a value; 0 is unlimited and 1 to 999 clamp to 1000 (R50). -/
def permittedBudget (w : Nat) : Nat := if w = 0 then 0 else if w < 1000 then 1000 else w

end Sys2Proof.Machine
end

