-- ==== Sys2Proof/Machine/Flags.lean ====
section
/-! DEFINITION. The guard flags and the ready reasons: the guard of a command telegram (R151), the
conditions behind the ready reasons (R94), the views they are computed from. -/

namespace Sys2Proof.Machine

/-! ## Views other blocks read -/

/-- The mounted tool. -/
def State.mountedTool (s : State) : Option Tool :=
  match s.cycle.mounted with
  | none => none
  | some i => s.tools[i]

/-- The mounted tool's active recipe. -/
def State.activeRecipe (s : State) : Option Recipe :=
  match s.mountedTool with
  | none => none
  | some t => t.active

/-- The mounted tool's cavity count, 0 with no tool mounted. -/
def State.cavityCount (s : State) : Nat :=
  match s.mountedTool with
  | none => 0
  | some t => t.cavityCount

/-- The used zones of a tool: the union of its cavity zone sets and its support zone set (R2). -/
def Tool.used (t : Tool) : ZoneSet :=
  t.cavityZones[0] ||| t.cavityZones[1] ||| t.cavityZones[2] ||| t.cavityZones[3] ||| t.support

/-- A zone is used by the mounted tool. -/
def State.usesZone (s : State) (z : ZoneIx) : Bool :=
  match s.mountedTool with
  | none => false
  | some t => ZoneSet.has t.used z

/-- The number of queued entries that carry a cavity (R79). -/
def cavityEntries (queue : List ChargeEntry) (cavity : Nat) : Nat :=
  (queue.filter (fun e => e.cavity == cavity)).length

/-- The cavities from 1 to n that no queued entry carries (R82). -/
def shortCavities (queue : List ChargeEntry) (n : Nat) : List Nat :=
  (List.range' 1 n).filter (fun c => cavityEntries queue c == 0)

/-! ## Ready reasons (R94) -/

/-- The conditions of R94 as they stand. -/
def State.conditions (s : State) : ReadyReasons where
  heatOff := !s.drive.master
  estop := s.inputs.eStop
  notSettled := allZones.any (fun z => s.usesZone z && decide (s.zones[z].state ≠ .settled))
  noCharge := !(shortCavities s.queue s.cavityCount).isEmpty
  ringFull := decide (Config.ringPlaces ≤ s.ring.records.length)
  serialSpent := s.ring.nextSerial.isNone

/-- No reason is in the set. -/
def ReadyReasons.isNone (r : ReadyReasons) : Bool :=
  !(r.heatOff || r.estop || r.notSettled || r.noCharge || r.ringFull || r.serialSpent)

/-- The cycle is in one of the five running states (R93). -/
def CycleState.running : CycleState → Bool
  | .noTool | .standby | .ready => false
  | .loading | .curing | .release | .ejecting | .takeout => true

/-- The cycle is in STANDBY or READY. -/
def CycleState.waits : CycleState → Bool
  | .standby | .ready => true
  | .noTool | .loading | .curing | .release | .ejecting | .takeout => false

/-- The cycle controller after an evaluation that found the reasons r (R94). -/
def Cycle.evaluated (c : Cycle) (r : ReadyReasons) : Cycle :=
  { c with reasons := r, state := if r.isNone then .ready else .standby, ready := r.isNone }

/-- The evaluation of the ready reasons: made in STANDBY and READY only (R94, R95). -/
def State.evaluate (s : State) : State :=
  s.setCycle (if s.cycle.state.waits then s.cycle.evaluated s.conditions else s.cycle)

/-! ## Guards (R151) -/

/-- The guard holds on the READY and CLEAN flags. A code above 7 names no guard. -/
def guardHolds (guard : Byte) (c : Cycle) : Bool :=
  match guard.toNat with
  | 0 => true
  | 1 => c.ready
  | 2 => !c.ready
  | 3 => c.clean
  | 4 => !c.clean
  | 5 => c.ready && c.clean
  | 6 => c.ready && !c.clean
  | 7 => !c.ready || !c.clean
  | _ => false

end Sys2Proof.Machine
end

