-- ==== Sys2Proof/Machine/Ops.lean ====
section
/-! DEFINITION. The operations every block shares: posting a notice (R156), writing the open part
record (R141, R142), letting time pass (log 4, log 5), taking a command telegram and answering it
(R150, R151). -/

namespace Sys2Proof.Machine

/-! ## Notices (R155, R156) -/

/-- ATTN follows the queue and the marker at once (R156). -/
def NoticeQueue.driven (q : NoticeQueue) : NoticeQueue :=
  { q with attn := !q.list.isEmpty || q.lapsed }

/-- A notice is appended, or is dropped and sets the lapsed marker when the queue is full (R156). -/
def NoticeQueue.push (q : NoticeQueue) (n : Notice) : NoticeQueue :=
  (if q.list.length < Config.noticePlaces then { q with list := q.list ++ [n] }
   else { q with lapsed := true }).driven

/-- A block posts a notice, stamped with the part clock. -/
def State.post (s : State) (kind : NoticeKind) (subject : Subject) (value : Option Int) : State :=
  s.setNotices (s.notices.push ⟨kind, s.clocks.part, subject, value⟩)

/-- RESTART clears the queue and the marker and posts RESTARTED (R154). -/
def State.restartNotices (s : State) : State :=
  s.setNotices (NoticeQueue.push ⟨[], false, false⟩ ⟨.restarted, s.clocks.part, .absent, none⟩)

/-! ## The open part record (R138, R141, R142) -/

/-- The open record, if one is open. -/
def State.openRecord (s : State) : Option PartRecord := s.ring.records.find? (·.opened)

/-- The open record's serial as a notice's subject, absent if no record is open. -/
def State.openSubject (s : State) : Subject :=
  match s.openRecord with
  | none => .absent
  | some r => .serial r.serial

/-- Writes into the open record, and into no other: a block that would write when no record is OPEN
writes nothing (R141). -/
def State.updateOpen (s : State) (f : PartRecord → PartRecord) : State :=
  s.setRing { s.ring with records := s.ring.records.map (fun r => if r.opened then f r else r) }

/-- A code placed in a fault set. -/
def FaultSet.add (f : FaultSet) (c : FaultCode) : FaultSet := f ||| BitVec.twoPow 12 c.bit

/-- A code is in a fault set. -/
def FaultSet.holds (f : FaultSet) (c : FaultCode) : Bool := f.getLsbD c.bit

/-- A fault code placed in a record's fault set makes its verdict false (R141). -/
def PartRecord.addFault (r : PartRecord) (c : FaultCode) : PartRecord :=
  { r with faults := FaultSet.add r.faults c, verdict := false }

/-- A block adds a fault code to the open record (R141). -/
def State.addFault (s : State) (c : FaultCode) : State := s.updateOpen (·.addFault c)

/-- The outcome of the open record is set, replacing the one it holds (R142). -/
def State.setOutcome (s : State) (o : PartOutcome) : State :=
  s.updateOpen (fun r => { r with outcome := o })

/-! ## The RESET pin (R156) -/

/-- What an event makes of the state, `t`, unless the RESET pin is held: the part then stays in reset, its
outputs off and ATTN negated, and takes no event (R24, R40, R42, R60, R99, R153, R156; log 2). -/
def State.unlessHeld (s t : State) : State := if s.inputs.resetPin then s else t

/-! ## Time (log 4, log 5) -/

/-- A timer runs for some ms and holds at its limit. -/
def runTimer (runs : Bool) (limit timer ms : Nat) : Nat := if runs then min limit (timer + ms) else timer

/-- The ms a recipe gives a timer as its limit, 0 with no active recipe. -/
def State.limitOf (s : State) (f : Recipe → Nat) : Nat :=
  match s.activeRecipe with
  | none => 0
  | some r => f r

/-- The close timeout, the open overdue time and the stroke timeout in ms. -/
def State.closeLimit (s : State) : Nat := s.limitOf (fun r => r.closeTimeout * 1000)
def State.openLimit (s : State) : Nat := s.limitOf (fun r => r.openOverdue * 1000)
def State.strokeLimit (s : State) : Nat := s.limitOf (fun r => r.strokeTimeout)

/-- The capture timeout of the snapshot, 0 with no snapshot. -/
def State.captureLimit (s : State) : Nat :=
  match s.scale.snapshot with
  | none => 0
  | some p => p.timeout

/-- Some ms pass: each timer that runs advances and holds at its limit; the open timer has none, and counts the
whole of RELEASE (R93, R102). Nothing else changes: what a timer's expiry does is done by the row of
that expiry. -/
def State.elapse (s : State) (ms : Nat) : State :=
  s.setTimers {
    window := runTimer true s.drive.windowLength s.timers.window ms
    close := runTimer (s.cycle.state == .loading) s.closeLimit s.timers.close ms
    opening := if s.cycle.state = .release then s.timers.opening + ms else s.timers.opening
    stroke := runTimer (s.ejector.sub == .extending || s.ejector.sub == .retracting)
      s.strokeLimit s.timers.stroke ms
    capture := runTimer (s.scale.capture == .waiting) s.captureLimit s.timers.capture ms
    cure := runTimer (s.cure.phase == .accumulating) (Config.secondPeriod - 1) s.timers.cure ms
    gap := runTimer (s.port.receive != .hunting) (Config.gapLimit + 1) s.timers.gap ms
    bridge := runTimer true Config.bridgePeriod s.timers.bridge ms
    second := runTimer true Config.secondPeriod s.timers.second ms
    zone := Vector.ofFn (fun z => runTimer true Config.zonePeriod s.timers.zone[z] ms) }

/-- The moment of a zone's next sample, a period after the last (R24). -/
def State.zoneMoment (s : State) (z : ZoneIx) : State :=
  let s := s.elapse (Config.zonePeriod - s.timers.zone[z])
  s.setTimers { s.timers with zone := s.timers.zone.set z 0 }

/-- The moment of the next bridge sample (R60). -/
def State.bridgeMoment (s : State) : State :=
  let s := s.elapse (Config.bridgePeriod - s.timers.bridge)
  s.setTimers { s.timers with bridge := 0 }

/-- The moment of the next second advance (R153). -/
def State.secondMoment (s : State) : State :=
  let s := s.elapse (Config.secondPeriod - s.timers.second)
  s.setTimers { s.timers with second := 0 }

/-- The moment at which the running heater window ends and the next starts (R40). -/
def State.windowMoment (s : State) : State :=
  let s := s.elapse (s.drive.windowLength - s.timers.window)
  s.setTimers { s.timers with window := 0 }

/-- The moment within the window at which a zone's on-time runs out (R42). -/
def State.onTimeMoment (s : State) (z : ZoneIx) : State :=
  s.elapse (s.heaters[z].onTime - s.timers.window)

/-- The moment of the next cure second (R114). -/
def State.cureMoment (s : State) : State :=
  let s := s.elapse (Config.secondPeriod - s.timers.cure)
  s.setTimers { s.timers with cure := 0 }

/-- The moments at which the close timer (R100), the open timer (R102), the stroke timer (R131, R132),
the capture timer (R70) and the gap between two bytes (R149) reach their limits. -/
def State.closeMoment (s : State) : State := s.elapse (s.closeLimit - s.timers.close)
def State.openMoment (s : State) : State := s.elapse (s.openLimit - s.timers.opening)
def State.strokeMoment (s : State) : State := s.elapse (s.strokeLimit - s.timers.stroke)
def State.captureMoment (s : State) : State := s.elapse (s.captureLimit - s.timers.capture)
def State.gapMoment (s : State) : State := s.elapse (Config.gapLimit + 1 - s.timers.gap)

/-! ## Taking a command telegram (R150, R151) -/

/-- What a command kind's own rule makes of a taken command: the state after it, the answer's status
and the answer's body. -/
structure Reply where
  state : State
  status : Status
  body : List Byte

/-- A refusal: the status with an empty body, and every block as it was (R151). -/
def Reply.refuse (s : State) (status : Status) : Reply := ⟨s, status, []⟩

/-- DONE with a body. -/
def Reply.done (s : State) (body : List Byte) : Reply := ⟨s, .done, body⟩

/-- DONE, or DONE_CLAMPED where a value was clamped. -/
def Reply.doneOr (clamped : Bool) (s : State) (body : List Byte) : Reply :=
  ⟨s, if clamped then .doneClamped else .done, body⟩

/-- A body of the wrong length is refused BAD_LENGTH (10.5). -/
def Reply.ofLength (agrees : Bool) (s : State) (k : Reply) : Reply :=
  if agrees then k else .refuse s .badLength

/-- The order of R151: the guard code, the kind, the guard, and then the kind's own tests. `own` is
absent for a kind byte that names no command kind. -/
def State.judge (s : State) (guard : Byte) (own : Option (State → Reply)) : Reply :=
  if 7 < guard.toNat then .refuse s .badGuard
  else
    match own with
    | none => .refuse s .unknownKind
    | some f => if guardHolds guard s.cycle then f s else .refuse s .passed

/-- The answer is composed and owed (R150). -/
def State.owe (s : State) (kind : Byte) (status : Status) (body : List Byte) : State :=
  s.setPort { s.port with answerOwed := true, answer := some ⟨kind, status, body⟩ }

/-- The port has received its telegram and hunts again (R149). -/
def State.hunt (s : State) : State := s.setPort { s.port with receive := .hunting }

/-- A telegram is complete. It is discarded unanswered while an answer is owed; otherwise it is taken,
judged and carried out, and its answer is owed (R149, R150, R151). No telegram is taken while RESET is held. -/
def State.take (s : State) (kind guard : Byte) (own : Option (State → Reply)) : State :=
  s.unlessHeld
    (if s.port.answerOwed then s.hunt
     else
      let r := s.hunt.judge guard own
      r.state.owe kind r.status r.body)

end Sys2Proof.Machine
end

