-- ==== Sys2Proof/Machine/Zones.lean ====
section
/-! DEFINITION. The platen zone monitor (chapter 2): what a zone does at each event, with what the
heater drive does for it at once (R43, R45, R46); the working values; READ ZONE, SET ZONE and the
samples. -/

namespace Sys2Proof.Machine

/-! ## What one event does to one zone -/

/-- A zone record and its heater record at one event, with the notices the zone posts: the kind and
the value (R35). -/
structure ZoneStep where
  zone : Zone
  heater : Heater
  posts : List (NoticeKind × Option Int)
  deriving DecidableEq, Repr

/-- The stale mark: the three conditions of R25, and a mark that RESTART has kept (R37), which stands until a
sample becomes the temperature or the zone enters FAULT (log 9). -/
def Zone.stale (z : Zone) : Bool :=
  !z.sampled || z.state == .fault || z.implausible == 2 || z.staleKept

/-- A condition that keeps a zone OFF holds (R26). -/
def Zone.mustBeOff (z : Zone) (master eStop : Bool) : Bool := !master || eStop || z.setpoint == 0

/-- Entry to OFF (R26), with the heater drive's cut-off (R43, R46). -/
def ZoneStep.enterOff (u : ZoneStep) : ZoneStep where
  zone := { u.zone with state := .off, settleTimer := 0, hot := false, faultAge := 0, plausible := 0 }
  heater := { u.heater with output := false, integrator := 0, lastRequest := 0, lastGrant := 0 }
  posts := u.posts

/-- A zone not already OFF enters OFF. -/
def ZoneStep.goOff (u : ZoneStep) : ZoneStep := if u.zone.state = .off then u else u.enterOff

/-- RESTART keeps the stale mark as it stands (R37). -/
def ZoneStep.keepStale (u : ZoneStep) : ZoneStep := { u with zone := { u.zone with staleKept := u.zone.stale } }

/-- Entry to FAULT (R31); the held duty is latched from the last grant (R45). -/
def ZoneStep.enterFault (u : ZoneStep) : ZoneStep where
  zone := { u.zone with state := .fault, settleTimer := 0, plausible := 0, faultAge := 0, staleKept := false }
  heater := { u.heater with heldDuty := u.heater.lastGrant }
  posts := u.posts ++ [(.zoneFault, if u.zone.sampled then some u.zone.temp else none)]

/-- The temperature exceeds the working setpoint plus the hot margin (R34). -/
def Zone.tooHot (z : Zone) : Bool := decide (z.setpoint + z.config.hotMargin < z.temp)

/-- HOT is judged (R34): not in OFF, and not while the stale mark is set. When it rises the output is
cut and the last grant becomes 0 (R43), and ZONE_HOT is posted. -/
def ZoneStep.judgeHot (u : ZoneStep) : ZoneStep :=
  if u.zone.state = .off ∨ u.zone.stale then u
  else if u.zone.tooHot then
    if u.zone.hot then u
    else
      { zone := { u.zone with hot := true }
        heater := { u.heater with output := false, lastGrant := 0 }
        posts := u.posts ++ [(.zoneHot, some u.zone.temp)] }
  else { u with zone := { u.zone with hot := false } }

/-- A zone leaves OFF (R27): for FAULT if its implausible run is 2, for RAMP otherwise; then HOT is
judged. -/
def ZoneStep.leaveOff (u : ZoneStep) : ZoneStep :=
  (if u.zone.implausible = 2 then u.enterFault
   else { u with zone := { u.zone with state := .ramp, settleTimer := 0 } }).judgeHot

/-- The zone settles the three conditions of R26 after one of them changed. -/
def ZoneStep.follow (master eStop : Bool) (u : ZoneStep) : ZoneStep :=
  if u.zone.mustBeOff master eStop then u.goOff
  else if u.zone.state = .off then u.leaveOff
  else u

/-- How far the temperature lies from the working setpoint. -/
def Zone.distance (z : Zone) : Int := |z.setpoint - z.temp|

/-- In band: at most the working band (2.4). -/
def Zone.inBand (z : Zone) : Bool := decide (z.distance ≤ z.band)

/-- Out: above the working band plus the exit hysteresis (2.4). -/
def Zone.outOfBand (z : Zone) : Bool := decide (z.band + z.config.exitHysteresis < z.distance)

/-- A zone found in band enters SETTLING, or SETTLED at once if its settle time is 0; found not in
band it enters RAMP; the settle timer is 0 (R23, R28). -/
def Zone.rejudged (z : Zone) : Zone :=
  { z with
    state := if z.inBand then (if z.settle = 0 then .settled else .settling) else .ramp
    settleTimer := 0 }

/-- The settle timer has reached the working settle time (R29). -/
def Zone.timerReached (z : Zone) : Bool := decide (z.settle * 1000 ≤ z.settleTimer)

/-- The working figures of a zone (R22). -/
structure Working where
  setpoint : Int
  band : Int
  settle : Nat
  deriving DecidableEq, Repr

/-- The zone with other working figures. -/
def Zone.withWorking (z : Zone) (w : Working) : Zone :=
  { z with setpoint := w.setpoint, band := w.band, settle := w.settle }

/-- What a change of working setpoint or band does, by the zone's state at that moment (R23); `lifted`
says that the working setpoint was 0 before. -/
def ZoneStep.bandChanged (master eStop lifted : Bool) (u : ZoneStep) : ZoneStep :=
  match u.zone.state with
  | .off => if lifted && !u.zone.mustBeOff master eStop then u.leaveOff else u
  | .ramp => if u.zone.setpoint = 0 then u.enterOff else u.judgeHot
  | .settling | .settled =>
    if u.zone.setpoint = 0 then u.enterOff else ZoneStep.judgeHot { u with zone := u.zone.rejudged }
  | .fault => if u.zone.setpoint = 0 then u.enterOff else u.judgeHot

/-- The working figures of a zone are set (R23). A value set to what it was is no change; a change of
the settle time alone lets a SETTLING zone whose timer has reached it become SETTLED. -/
def ZoneStep.setWorking (master eStop : Bool) (w : Working) (u : ZoneStep) : ZoneStep :=
  let v : ZoneStep := { u with zone := u.zone.withWorking w }
  if w.setpoint ≠ u.zone.setpoint ∨ w.band ≠ u.zone.band then
    v.bandChanged master eStop (u.zone.setpoint == 0)
  else if u.zone.state = .settling ∧ v.zone.timerReached then { v with zone := { v.zone with state := .settled } }
  else v

/-! ## Samples (R24 to R32) -/

/-- A converter reading beyond the range is clipped to the nearer end (00 Quantities, R24). -/
def clipTemp (t : Int) : Int := max Config.minTemp (min Config.maxTemp t)

/-- The temperature of a plausible sample, absent for an implausible one (R24). -/
def Zone.plausibleTemp (z : Zone) : Reading → Option Int
  | .openCircuit => none
  | .celsius t =>
    if z.config.lowLimit ≤ clipTemp t ∧ clipTemp t ≤ z.config.highLimit then some (clipTemp t) else none

/-- A plausible sample becomes the temperature, and the stale mark is clear outside FAULT (R25, R32). -/
def Zone.takeTemp (z : Zone) (t : Int) : Zone := { z with temp := t, sampled := true, staleKept := false, implausible := 0 }

/-- The zone state after a plausible sample in RAMP, SETTLING or SETTLED (R28, R29, R30). -/
def Zone.bandSample (z : Zone) : Zone :=
  match z.state with
  | .ramp => if z.inBand then z.rejudged else z
  | .settling =>
    if z.outOfBand then { z with state := .ramp, settleTimer := 0 }
    else
      let z := { z with settleTimer := z.settleTimer + Config.zonePeriod }
      if z.timerReached then { z with state := .settled } else z
  | .settled => if z.outOfBand then { z with state := .ramp, settleTimer := 0 } else z
  | .off | .fault => z

/-- The eighth consecutive plausible sample in FAULT (R32): RAMP with the new temperature, HOT judged,
ZONE_RECOVERED posted; the drive clears the integrator (R46). -/
def ZoneStep.recover (u : ZoneStep) (t : Int) : ZoneStep :=
  let v := ZoneStep.judgeHot
    { zone := { u.zone.takeTemp t with state := .ramp, settleTimer := 0, plausible := 0, faultAge := 0 }
      heater := { u.heater with integrator := 0 }
      posts := u.posts }
  { v with posts := v.posts ++ [(.zoneRecovered, some t)] }

/-- A plausible sample. -/
def ZoneStep.plausibleSample (u : ZoneStep) (t : Int) : ZoneStep :=
  match u.zone.state with
  | .off => { u with zone := { u.zone.takeTemp t with plausible := 0 } }
  | .ramp | .settling | .settled =>
    ZoneStep.judgeHot { u with zone := { (u.zone.takeTemp t).bandSample with plausible := 0 } }
  | .fault =>
    if 8 ≤ u.zone.plausible + 1 then u.recover t
    else
      { u with zone := { u.zone with
          implausible := 0, plausible := u.zone.plausible + 1,
          faultAge := min Config.maxFaultAge (u.zone.faultAge + Config.zonePeriod) } }

/-- An implausible sample. -/
def ZoneStep.implausibleSample (u : ZoneStep) : ZoneStep :=
  let v : ZoneStep := { u with zone := { u.zone with implausible := min 2 (u.zone.implausible + 1), plausible := 0 } }
  match u.zone.state with
  | .off => v
  | .ramp | .settling | .settled => if v.zone.implausible = 2 then v.enterFault else v
  | .fault =>
    { v with zone := { v.zone with faultAge := min Config.maxFaultAge (v.zone.faultAge + Config.zonePeriod) } }

/-- A sample of the zone (R24). -/
def ZoneStep.sample (reading : Reading) (u : ZoneStep) : ZoneStep :=
  match u.zone.plausibleTemp reading with
  | some t => u.plausibleSample t
  | none => u.implausibleSample

/-! ## Zones within the part -/

/-- A zone and its heater as they stand. -/
def State.zoneStep (s : State) (z : ZoneIx) : ZoneStep := ⟨s.zones[z], s.heaters[z], []⟩

/-- A zone posts its notices in their order, with the zone as subject (R35). -/
def State.postZone (s : State) (z : ZoneIx) (posts : List (NoticeKind × Option Int)) : State :=
  posts.foldl (fun s p => s.post p.1 (.zone z.number) p.2) s

/-- A zone event changes one zone. An entry to or departure from SETTLED of a used zone is reported to
the cycle controller, which evaluates the ready reasons (R33, R95). -/
def State.applyZone (s : State) (z : ZoneIx) (f : ZoneStep → ZoneStep) : State :=
  let u := f (s.zoneStep z)
  let t := ((s.setZones (s.zones.set z u.zone)).setHeaters (s.heaters.set z u.heater)).postZone z u.posts
  if s.usesZone z && ((s.zones[z].state == .settled) != (u.zone.state == .settled)) then t.evaluate else t

/-- Places a zone's notices among those of zones with a greater rank. -/
def insertByRank (rank : Nat → Nat) (p : ZoneIx × List (NoticeKind × Option Int)) :
    List (ZoneIx × List (NoticeKind × Option Int)) → List (ZoneIx × List (NoticeKind × Option Int))
  | [] => [p]
  | q :: rest => if rank p.1.val ≤ rank q.1.val then p :: q :: rest else q :: insertByRank rank p rest

/-- The order in which several zones post at one event: the spec gives none, so it is drawn from
`Config.noticeRank` (log 6). One zone alone needs no order. -/
def orderPosts (draw : Nat) (l : List (ZoneIx × List (NoticeKind × Option Int))) :
    List (ZoneIx × List (NoticeKind × Option Int)) :=
  if l.length ≤ 1 then l else l.foldr (insertByRank (Config.noticeRank draw)) []

/-- The zones that post at one event, with their notices. -/
def postingZones (u : ZoneIx → ZoneStep) : List (ZoneIx × List (NoticeKind × Option Int)) :=
  (allZones.map (fun z => (z, (u z).posts))).filter (fun p => !p.2.isEmpty)

/-- An event changes all twelve zones together; no zone's result depends on another's. -/
def State.applyZones (s : State) (f : ZoneIx → ZoneStep → ZoneStep) : State :=
  let u := fun z => f z (s.zoneStep z)
  let l := postingZones u
  let t := ((s.setZones (Vector.ofFn (fun z => (u z).zone))).setHeaters
    (Vector.ofFn (fun z => (u z).heater))).setDraws (if l.length ≤ 1 then s.draws else s.draws + 1)
  (orderPosts s.draws l).foldl (fun t p => t.postZone p.1 p.2) t

/-- All zones settle the conditions of R26 (HEAT, E_STOP). -/
def State.followZones (s : State) : State :=
  s.applyZones (fun _ => ZoneStep.follow s.drive.master s.inputs.eStop)

/-- The entry of a recipe for a zone (R6). -/
def Recipe.entryFor (r : Recipe) (z : ZoneIx) : Option ZoneEntry := r.zones.find? (fun e => e.zone == z)

/-- The mounted tool's recipe entry for a zone it uses, with the recipe's settle time. -/
def State.usedEntry (s : State) (z : ZoneIx) : Option (ZoneEntry × Nat) :=
  if s.usesZone z then
    match s.activeRecipe with
    | none => none
    | some r => (r.entryFor z).map (fun e => (e, r.settleTime))
  else none

/-- The working figures of a zone (R22). -/
def State.workingFor (s : State) (z : ZoneIx) : Working :=
  match s.usedEntry z with
  | some (e, settle) => ⟨min e.setpoint s.zones[z].config.setpointMax, e.band, settle⟩
  | none => ⟨s.zones[z].config.standby, Config.standbyBand, Config.standbySettle⟩

/-- Every zone takes the working figures its tool and configuration give it (R22, R23). -/
def State.setWorkings (s : State) : State :=
  s.applyZones (fun z => ZoneStep.setWorking s.drive.master s.inputs.eStop (s.workingFor z))

/-! ## READ ZONE and SET ZONE -/

/-- The ten configuration items as SET ZONE carries them. -/
def ZoneConfig.bytes (c : ZoneConfig) : List Byte :=
  be16 c.ratedPower ++ be16s c.lowLimit ++ be16s c.highLimit ++ be16s c.setpointMax
  ++ [byte c.kp.toNat, byte c.ki.toNat] ++ be16s c.hotMargin ++ be16 c.faultHold ++ be16s c.standby
  ++ be16s c.exitHysteresis

/-- The zone record of READ ZONE (10.6). -/
def zoneReport (number : Nat) (z : Zone) (h : Heater) : List Byte :=
  [byte number] ++ z.config.bytes ++ be16s z.setpoint ++ be16s z.temp
  ++ [flag z.stale, byte z.state.code, flag z.hot] ++ be16 (z.settleTimer / 1000)
  ++ be16 h.lastRequest ++ be16 h.lastGrant ++ be16 h.heldDuty

/-- READ ZONE (R36). -/
def readZoneCommand (body : List Byte) (s : State) : Reply :=
  .ofLength (body.length == 1) s
    (if 1 ≤ u8 body 0 ∧ u8 body 0 ≤ 12 then
      let z := Fin.ofNat 12 (u8 body 0 - 1)
      .done s (zoneReport (u8 body 0) s.zones[z] s.heaters[z])
    else .refuse s .badValue)

/-- A new configuration reaches the live zone (R21): the working figures are recomputed, and HOT is
judged again. -/
def ZoneStep.configure (master eStop : Bool) (w : Working) (u : ZoneStep) : ZoneStep :=
  (u.setWorking master eStop w).judgeHot

/-- The zone record with a new configuration. -/
def State.configureZone (s : State) (z : ZoneIx) (c : ZoneConfig) : State :=
  let w := (s.setZones (s.zones.set z { s.zones[z] with config := c })).workingFor z
  s.applyZone z (fun u =>
    ZoneStep.configure s.drive.master s.inputs.eStop w { u with zone := { u.zone with config := c } })

/-- SET ZONE (R20, R21). -/
def setZoneCommand (body : List Byte) (s : State) : Reply :=
  .ofLength (body.length == 19) s
    (if 1 ≤ u8 body 0 ∧ u8 body 0 ≤ 12 ∧ zoneConfigInRange (zoneConfigOf body) then
      .done (s.configureZone (Fin.ofNat 12 (u8 body 0 - 1)) (zoneConfigOf body)) []
    else .refuse s .badValue)

/-- READ_ZONE. -/
def execReadZone (guard : Byte) (body : List Byte) (s : State) : Host.Outcome State Fault Refusal :=
  .next (s.take 0x03 guard (some (readZoneCommand body)))

/-- SET_ZONE. -/
def execSetZone (guard : Byte) (body : List Byte) (s : State) : Host.Outcome State Fault Refusal :=
  .next (s.take 0x20 guard (some (setZoneCommand body)))

/-! ## The sample rows -/

/-- The whole work of one sample of a zone (R24 to R34). -/
def State.sampleZone (s : State) (z : ZoneIx) (reading : Reading) : State :=
  (s.zoneMoment z).applyZone z (ZoneStep.sample reading)

/-- The zone state a sample leaves. -/
def State.stateAfterSample (s : State) (z : ZoneIx) (reading : Reading) : ZoneState :=
  (ZoneStep.sample reading (s.zoneStep z)).zone.state

/-- ZONE_SAMPLE (R24). -/
def execZoneSample (z : ZoneIx) (reading : Reading) (s : State) : Host.Outcome State Fault Refusal :=
  .next (s.unlessHeld (s.sampleZone z reading))

/-- SETTLE_TIME_REACHED (R29): the sample that takes the zone from SETTLING to SETTLED. A sample that
does not is no such event (log 1). -/
def execSettleTimeReached (z : ZoneIx) (reading : Reading) (s : State) : Host.Outcome State Fault Refusal :=
  .next (s.unlessHeld
    (if s.zones[z].state = .settling ∧ s.stateAfterSample z reading = .settled then s.sampleZone z reading else s))

/-- ZONE_FAULT_ENTRY (R31): the sample that takes the zone into FAULT. -/
def execZoneFaultEntry (z : ZoneIx) (reading : Reading) (s : State) : Host.Outcome State Fault Refusal :=
  .next (s.unlessHeld
    (if s.zones[z].state ≠ .fault ∧ s.stateAfterSample z reading = .fault then s.sampleZone z reading else s))

/-- ZONE_RECOVERY (R32): the sample that takes the zone from FAULT to RAMP. -/
def execZoneRecovery (z : ZoneIx) (reading : Reading) (s : State) : Host.Outcome State Fault Refusal :=
  .next (s.unlessHeld
    (if s.zones[z].state = .fault ∧ s.stateAfterSample z reading ≠ .fault then s.sampleZone z reading else s))

end Sys2Proof.Machine
end

