-- ==== Sys2Proof/Machine/Transitions.lean ====
section
/-! DEFINITION. The shared transitions of a press cycle: promotion (R10, R11), the permits (R99), the
close of the record and of the cycle (R104, R143), the end of the cure (R122), RELEASE and EJECTING
(R102, R103), strokes and the end of the ejector sequence (R128 to R136). -/

namespace Sys2Proof.Machine

/-! ## Promotion (R10 to R12) -/

/-- All eight slots, in number order. -/
def allSlots : List SlotIx := [0, 1, 2, 3, 4, 5, 6, 7]

/-- A tool with its staged recipe promoted: the revision advances, 65535 being followed by 0 (R10). -/
def Tool.promoted (t : Tool) (r : Recipe) : Tool :=
  { t with active := some r, staged := none, revision := (t.revision + 1) % 65536 }

/-- The staged recipe of a slot, if it holds one, becomes active, and RECIPE_PROMOTED is posted (R10). -/
def State.promote (s : State) (i : SlotIx) : State :=
  match s.tools[i] with
  | none => s
  | some t =>
    match t.staged with
    | none => s
    | some r =>
      (s.setTools (s.tools.set i (some (t.promoted r)))).post .recipePromoted .absent (some t.number)

/-- The mounted slot holds a waiting staged recipe. -/
def State.hasStaged (s : State) : Bool :=
  match s.mountedTool with
  | none => false
  | some t => t.staged.isSome

/-- A waiting staged recipe of the mounted tool is promoted and the zones take its figures (R11, R12). -/
def State.promoteMounted (s : State) : State :=
  match s.cycle.mounted with
  | none => s
  | some i => if s.hasStaged then (s.promote i).setWorkings else s

/-! ## States and permits (R93, R99) -/

/-- CLOSE_PERMIT is on in LOADING while EJECT_AT_BACK is asserted and E_STOP is negated; OPEN_PERMIT is
on in RELEASE while E_STOP is negated (R99). -/
def Cycle.permitted (c : Cycle) (i : Inputs) : Cycle :=
  { c with
    closePermit := c.state == .loading && i.ejectAtBack && !i.eStop
    openPermit := c.state == .release && !i.eStop }

/-- The permits follow the state and the inputs. -/
def State.drivePermits (s : State) : State := s.setCycle (s.cycle.permitted s.inputs)

/-- The cycle controller in another state, with no ready reasons and READY false; an entry to STANDBY
is followed by an evaluation (R93). -/
def Cycle.entered (c : Cycle) (st : CycleState) : Cycle :=
  { c with state := st, reasons := ReadyReasons.none, ready := false }

/-- The cycle enters a state, and the permits follow. -/
def State.enter (s : State) (st : CycleState) : State :=
  s.setCycle ((s.cycle.entered st).permitted s.inputs)

/-! ## Closing (R104, R143) -/

/-- The open record is closed: CLOSED with its take-out time, PART_CLOSED posted, CLEAN takes the
verdict (R143, R96). -/
def State.closeRecord (s : State) : State :=
  match s.openRecord with
  | none => s
  | some r =>
    ((s.updateOpen (fun q => { q with opened := false, takeoutTime := some s.clocks.part })).post
      .partClosed (.serial r.serial) (some (if r.verdict then 1 else 0))).setCycle
      { s.cycle with clean := r.verdict }

/-- The integrator returns to IDLE (R111). -/
def State.idleCure (s : State) : State :=
  (s.setCure Cure.reset).setTimers { s.timers with cure := 0 }

/-- The close of a cycle, in the order of R104. -/
def State.closeCycle (s : State) : State :=
  ((s.closeRecord.idleCure.promoteMounted).enter .standby).evaluate

/-- The cycle enters TAKEOUT, where TAKEOUT_CLEAR is judged at once (R104). -/
def State.enterTakeout (s : State) : State :=
  let t := s.enter .takeout
  if t.inputs.takeoutClear then t.closeCycle else t

/-! ## The end of the cure (R121, R122, R124) -/

/-- Each cavity's accumulator becomes its achieved dose. -/
def writeDoses : List RecordCavity → List CavityCure → List RecordCavity
  | c :: cs, d :: ds => { c with achieved := d.dose } :: writeDoses cs ds
  | cs, _ => cs

/-- The integrator enters ENDED and writes its doses and duration into the open record (R121, R122). -/
def State.endCure (s : State) : State :=
  (s.setCure { s.cure with phase := .ended }).updateOpen (fun r =>
    { r with cavities := writeDoses r.cavities s.cure.cavities, cureDuration := s.cure.elapsed })

/-- A cycle leaves LOADING for TAKEOUT without a cure (R124). -/
def State.endPending (s : State) : State := s.setCure { s.cure with phase := .ended }

/-! ## Strokes (R128 to R136) -/

/-- A stroke begins (R128). -/
def State.beginStroke (s : State) : State :=
  (s.setEjector { s.ejector with sub := .extending, fwd := true }).setTimers { s.timers with stroke := 0 }

/-- The sequence ends: strokes and retries are written into the record, the sequencer enters IDLE and
the cycle TAKEOUT (R134, R136). Its counters and marks, the stalled mark among them, stay as they are in IDLE
(the model's choice: log 14). -/
def State.endSequence (s : State) : State :=
  ((s.updateOpen (fun r => { r with strokes := s.ejector.strokes, retries := s.ejector.retries })).setEjector
    { s.ejector with sub := .idle, fwd := false }).enterTakeout

/-- The sequence ends as abandoned (R134). -/
def State.abandonSequence (s : State) : State := (s.setOutcome .ejectAbandoned).endSequence

/-- The strokes of a set (R7). -/
def State.strokeCount (s : State) : Nat := s.limitOf (fun r => r.strokeCount)

/-- In RETRACTING the level of EJECT_AT_BACK is judged, by the rows of R130. -/
def State.judgeBack (s : State) : State :=
  if s.inputs.ejectAtBack then
    if s.ejector.abandonPending then s.abandonSequence
    else if s.ejector.stalledMark then s.setEjector { s.ejector with sub := .stalled }
    else if s.ejector.strokes < s.strokeCount then s.beginStroke
    else s.endSequence
  else s

/-- The ejector retracts, EJECT_FWD off and the stroke timer at 0, and the level is judged at the entry
(R129, R130, R131). -/
def State.retract (s : State) (stalled : Bool) : State :=
  ((s.setEjector { s.ejector with sub := .retracting, fwd := false, stalledMark := stalled }).setTimers
    { s.timers with stroke := 0 }).judgeBack

/-! ## RELEASE and EJECTING (R102, R103) -/

/-- The cycle enters EJECTING with a cleared sequencer, which begins stroke 1 (R103, R128). -/
def State.enterEjecting (s : State) : State := ((s.enter .ejecting).setEjector Ejector.reset).beginStroke

/-- RELEASE is left for EJECTING when PRESS_OPEN is asserted while E_STOP is negated (R102). -/
def State.leaveRelease (s : State) : State :=
  if s.cycle.state = .release ∧ s.inputs.pressOpen ∧ !s.inputs.eStop then s.enterEjecting else s

/-- The entry to RELEASE from CURING (R102). -/
def State.enterRelease (s : State) : State :=
  ((((s.updateOpen (fun r => { r with releaseTime := some s.clocks.part })).setTimers
    { s.timers with opening := 0 }).setCycle { s.cycle with overduePosted := false }).enter .release).leaveRelease

/-- The cycle controller ends a running cure early: no release decision, and RELEASE (R101, R122). -/
def State.stopCure (s : State) : State := s.endCure.enterRelease

end Sys2Proof.Machine
end

