-- ==== Sys2Proof/Machine/Eject.lean ====
section
/-! DEFINITION. The ejector sequencer (chapter 8): RETRY EJECT, ABANDON EJECT, the ejector's end
positions, stall and jam, and what an emergency stop does in EJECTING. -/

namespace Sys2Proof.Machine

/-- ABANDON EJECT carried out, by sub-state (R134). In IDLE, which no run holds in EJECTING, nothing is
done (log 16). -/
def State.abandon (s : State) : State :=
  match s.ejector.sub with
  | .stalled => s.abandonSequence
  | .extending | .retracting | .jammed => s.setEjector { s.ejector with abandonPending := true }
  | .idle => s

/-- The sequencer when E_STOP rises (R135). In STALLED and JAMMED too the stalled mark is cleared, as R135's list
has it, though its later text says that nothing changes there (the model's choice: log 18). -/
def Ejector.stopped (e : Ejector) (back : Bool) : Ejector :=
  { e with fwd := false, stalledMark := false, sub := if back then .stalled else .jammed }

/-- E_STOP rises in EJECTING (R135); a pending abandonment is taken when the ejector is back (R134). -/
def State.stopEjector (s : State) : State :=
  let t := s.setEjector (s.ejector.stopped s.inputs.ejectAtBack)
  if s.inputs.ejectAtBack ∧ s.ejector.abandonPending then t.abandonSequence else t

/-- EJECT_AT_BACK rises in JAMMED (R132). -/
def State.unjam (s : State) : State :=
  if s.ejector.abandonPending then s.abandonSequence else s.setEjector { s.ejector with sub := .stalled }

/-- The four conditions of RETRY EJECT hold (R133). -/
def State.mayRetry (s : State) : Bool :=
  s.cycle.state == .ejecting && s.ejector.sub == .stalled && decide (s.ejector.retries < Config.maxRetries)
  && !s.inputs.eStop

/-- RETRY EJECT carried out: a retry is counted and stroke 1 of a fresh set begins (R133). -/
def State.retry (s : State) : State :=
  (s.setEjector { s.ejector with retries := s.ejector.retries + 1, strokes := 0, stalledMark := false }).beginStroke

/-- RETRY EJECT (R133). -/
def retryEjectCommand (body : List Byte) (s : State) : Reply :=
  .ofLength (body.length == 0) s
    (if s.mayRetry then .done s.retry [byte s.retry.ejector.sub.code, byte s.retry.ejector.retries]
     else .refuse s .wrongState)

/-- ABANDON EJECT (R134). -/
def abandonEjectCommand (body : List Byte) (s : State) : Reply :=
  .ofLength (body.length == 0) s
    (if s.cycle.state = .ejecting then .done s.abandon [byte s.abandon.ejector.sub.code]
     else .refuse s .wrongState)

/-- RETRY_EJECT. -/
def execRetryEject (guard : Byte) (body : List Byte) (s : State) : Host.Outcome State Fault Refusal :=
  .next (s.take 0x42 guard (some (retryEjectCommand body)))

/-- ABANDON_EJECT. -/
def execAbandonEject (guard : Byte) (body : List Byte) (s : State) : Host.Outcome State Fault Refusal :=
  .next (s.take 0x43 guard (some (abandonEjectCommand body)))

/-- EJECT_AT_FWD rises: in EXTENDING the stroke is counted and the ejector retracts; elsewhere the edge
has no effect (R129). -/
def State.forwardReached (s : State) : State :=
  if s.cycle.state = .ejecting ∧ s.ejector.sub = .extending then
    (s.setEjector { s.ejector with strokes := s.ejector.strokes + 1 }).retract false
  else s

/-- EJECT_AT_FWD_RISING (R129). -/
def execEjectAtFwdRising (levelAfter : Bool) (s : State) : Host.Outcome State Fault Refusal :=
  let t := s.setInputs { s.inputs with ejectAtFwd := levelAfter }
  .next (t.unlessHeld (s.forwardReached.setInputs t.inputs))

/-- EJECT_AT_BACK rises in EJECTING: the retract ends by R130, a jam by R132. -/
def State.backReached (s : State) : State :=
  if s.cycle.state = .ejecting then
    match s.ejector.sub with
    | .retracting => s.judgeBack
    | .jammed => s.unjam
    | .idle | .extending | .stalled => s
  else s

/-- EJECT_AT_BACK_RISING (R130, R132; R99 in LOADING). -/
def execEjectAtBackRising (s : State) : Host.Outcome State Fault Refusal :=
  let t := s.setInputs { s.inputs with ejectAtBack := true }
  .next (t.unlessHeld t.drivePermits.backReached)

/-- EJECT_AT_BACK_FALLING (R99). -/
def execEjectAtBackFalling (s : State) : Host.Outcome State Fault Refusal :=
  let t := s.setInputs { s.inputs with ejectAtBack := false }
  .next (t.unlessHeld t.drivePermits)

/-- The stroke has stalled (R131). -/
def State.stall (s : State) : State :=
  ((s.strokeMoment.addFault .ejectStall).post .ejectStall s.openSubject (some s.ejector.strokes)).retract true

/-- EJECT_STALL (R131): the stroke timer expires in EXTENDING, and nowhere else (log 1). -/
def execEjectStall (s : State) : Host.Outcome State Fault Refusal :=
  .next (s.unlessHeld (if s.cycle.state = .ejecting ∧ s.ejector.sub = .extending then s.stall else s))

/-- The ejector has jammed (R132). -/
def State.jam (s : State) : State :=
  ((s.strokeMoment.setEjector { s.ejector with sub := .jammed }).addFault .ejectJam).post .ejectJam
    s.openSubject (some s.ejector.strokes)

/-- EJECT_JAM (R132): the stroke timer expires in RETRACTING, and nowhere else (log 1). -/
def execEjectJam (s : State) : Host.Outcome State Fault Refusal :=
  .next (s.unlessHeld (if s.cycle.state = .ejecting ∧ s.ejector.sub = .retracting then s.jam else s))

end Sys2Proof.Machine
end

