-- ==== Sys2Proof/Machine/Heater.lean ====
section
/-! DEFINITION. The heater drive (chapter 3): the request, the control law, the supply budget, the
window start and the end of an on-time; SET WINDOW, SET SUPPLY and HEAT. -/

namespace Sys2Proof.Machine

/-! ## The control law (R47 to R49) -/

/-- A value brought between two bounds. -/
def clamp (lo hi x : Int) : Int := max lo (min hi x)

/-- The error: working setpoint minus temperature, clamped (R47). -/
def Zone.error (z : Zone) : Int := clamp (-2000) 2000 (z.setpoint - z.temp)

/-- The proportional term, truncated toward zero (R47). -/
def Zone.proportional (z : Zone) : Int := Int.tdiv (z.config.kp * z.error) 16

/-- The integrator's move is suppressed: upward while the heater was full or cut short, downward while
it was off (R48). -/
def Heater.suppresses (h : Heater) (e : Int) : Bool :=
  if 0 < e then decide (h.lastGrant = 1000 ∨ h.lastGrant < h.lastRequest)
  else if e < 0 then decide (h.lastGrant = 0)
  else true

/-- The integrator after the move or its suppression (R48). -/
def nextIntegrator (z : Zone) (h : Heater) : Int :=
  if h.suppresses z.error then h.integrator
  else clamp 0 Config.maxIntegrator (h.integrator + z.config.ki * z.error)

/-- The request of the control law (R49). -/
def lawRequest (z : Zone) (h : Heater) : Nat :=
  (clamp 0 1000 (z.proportional + nextIntegrator z h / 64)).toNat

/-- Row 6 of R44: a controlled zone with a believable temperature. -/
def Zone.controlled (z : Zone) : Bool :=
  decide (z.state ≠ .off) && !z.hot && decide (z.state ≠ .fault) && !z.stale

/-- The request, by the first row of R44 that matches. -/
def request (z : Zone) (h : Heater) : Nat :=
  if z.state = .off then 0
  else if z.hot then 0
  else if z.state = .fault then (if z.faultAge < z.config.faultHold * 1000 then h.heldDuty else 0)
  else if z.stale then 0
  else lawRequest z h

/-- The integrator after the window start: it moves in row 6 of R44 alone. -/
def windowIntegrator (z : Zone) (h : Heater) : Int :=
  if z.controlled then nextIntegrator z h else h.integrator

/-! ## The supply budget (R51) -/

/-- The demand S: the sum of request times rated power over all twelve zones. -/
def State.demand (s : State) : Nat :=
  (allZones.map (fun z => request s.zones[z] s.heaters[z] * s.zones[z].config.ratedPower)).sum

/-- The grant for a request under budget B and demand S; the product is not narrowed (R51). -/
def grantFor (budget demand request : Nat) : Nat :=
  if budget = 0 ∨ demand ≤ budget * 1000 then request else request * budget * 1000 / demand

/-- The on-time of a grant in a window of a length (R42). -/
def onTimeFor (length grant : Nat) : Nat := length * grant / 1000

/-- A zone's heater record after a window start (R41, R42). -/
def Heater.started (length budget demand : Nat) (z : Zone) (h : Heater) : Heater :=
  let grant := grantFor budget demand (request z h)
  { integrator := windowIntegrator z h
    lastRequest := request z h
    lastGrant := grant
    heldDuty := h.heldDuty
    onTime := onTimeFor length grant
    output := decide (0 < onTimeFor length grant) }

/-- The work of a window start for all twelve zones together (R40, R41). -/
def State.startWindow (s : State) : State :=
  (s.setDrive { s.drive with windowLength := s.drive.windowSetting }).setHeaters
    (Vector.ofFn (fun z => s.heaters[z].started s.drive.windowSetting s.drive.budget s.demand s.zones[z]))

/-- WINDOW_START (R41). -/
def execWindowStart (s : State) : Host.Outcome State Fault Refusal := 
  .next (s.unlessHeld s.windowMoment.startWindow)

/-- A zone's output goes off. -/
def State.outputOff (s : State) (z : ZoneIx) : State :=
  s.setHeaters (s.heaters.set z { s.heaters[z] with output := false })

/-- ON_TIME_END (R42): the on-time of an output that is on runs out before the window does. An on-time
as long as the window has no end of its own (log 1). -/
def execOnTimeEnd (z : ZoneIx) (s : State) : Host.Outcome State Fault Refusal :=
  .next (s.unlessHeld
    (if s.heaters[z].output ∧ s.heaters[z].onTime < s.drive.windowLength then (s.onTimeMoment z).outputOff z else s))

/-! ## Commands -/

/-- SET WINDOW (R55). -/
def setWindowCommand (body : List Byte) (s : State) : Reply :=
  .ofLength (body.length == 2) s
    (let w := permittedWindow (u16 body 0)
     .doneOr (w != u16 body 0) (s.setDrive { s.drive with windowSetting := w }) (be16 w))

/-- SET SUPPLY (R50). -/
def setSupplyCommand (body : List Byte) (s : State) : Reply :=
  .ofLength (body.length == 4) s
    (if 200000 < u32 body 0 then .refuse s .badValue
     else
      let b := permittedBudget (u32 body 0)
      .doneOr (b != u32 body 0) (s.setDrive { s.drive with budget := b }) (be32 b))

/-- The heat master takes a value. A change puts zones in OFF or lets them leave it, and the ready
reasons are evaluated; the value already held changes nothing (R53, R95). -/
def State.setMaster (s : State) (on : Bool) : State :=
  if on = s.drive.master then s
  else (s.setDrive { s.drive with master := on }).followZones.evaluate

/-- HEAT (R53). -/
def heatCommand (body : List Byte) (s : State) : Reply :=
  .ofLength (body.length == 1) s
    (if 1 < u8 body 0 then .refuse s .badValue
     else .done (s.setMaster (u8 body 0 == 1)) [flag (u8 body 0 == 1)])

/-- SET_WINDOW. -/
def execSetWindow (guard : Byte) (body : List Byte) (s : State) : Host.Outcome State Fault Refusal :=
  .next (s.take 0x21 guard (some (setWindowCommand body)))

/-- SET_SUPPLY. -/
def execSetSupply (guard : Byte) (body : List Byte) (s : State) : Host.Outcome State Fault Refusal :=
  .next (s.take 0x22 guard (some (setSupplyCommand body)))

/-- HEAT. -/
def execHeat (guard : Byte) (body : List Byte) (s : State) : Host.Outcome State Fault Refusal :=
  .next (s.take 0x23 guard (some (heatCommand body)))

end Sys2Proof.Machine
end

