-- ==== Sys2Proof/Machine/Cure.lean ====
section
/-! DEFINITION. The cure integrator (chapter 7): the required dose, the cure second and the release
decision; CURE_SECOND and MAXIMUM_CURE_REACHED. -/

namespace Sys2Proof.Machine

/-! ## The required dose (R112, R113) -/

/-- The excess of a charge in permille of its target, truncated toward zero and clamped (R112). -/
def excess (mass target : Nat) : Int := max 0 (min 200 (Int.tdiv (((mass : Int) - target) * 1000) target))

/-- The required dose in dose units (R113). -/
def requiredDose (base gain mass target : Nat) : Nat :=
  base * 256 + base * 256 * (excess mass target).toNat * gain / 100000

/-! ## Governing temperature and rate (R115, R116) -/

/-- The temperatures of a cavity's zones that are not in FAULT. -/
def State.governingTemps (s : State) (zones : ZoneSet) : List Int :=
  (allZones.filter (fun z => ZoneSet.has zones z && decide (s.zones[z].state ≠ .fault))).map (fun z => s.zones[z].temp)

/-- The lowest of some temperatures. -/
def lowest : List Int → Option Int
  | [] => none
  | t :: ts => match lowest ts with | none => some t | some u => some (min t u)

/-- The highest of some temperatures. -/
def highest : List Int → Option Int
  | [] => none
  | t :: ts => match highest ts with | none => some t | some u => some (max t u)

/-- A cavity's governing temperature (R115). -/
def State.governing (s : State) (zones : ZoneSet) : Option Int := lowest (s.governingTemps zones)

/-- The rate within a segment, floored (R116 row 3). -/
def segmentRate (a b : RatePoint) (t : Int) : Int :=
  a.rate + Int.fdiv (((b.rate : Int) - a.rate) * (t - a.temp)) (b.temp - a.temp)

/-- The rate along the points: the first segment that holds the temperature, the last point at or above
its own temperature (R116). -/
def rateAlong (t : Int) : List RatePoint → Int
  | [] => 0
  | [p] => if p.temp ≤ t then p.rate else 0
  | a :: b :: rest => if a.temp ≤ t ∧ t < b.temp then segmentRate a b t else rateAlong t (b :: rest)

/-- The rate of a governing temperature: 0 below the first point, the last rate at or above the last
point, interpolated between (R116). -/
def rateFor (table : RateTable) (t : Int) : Nat :=
  if t < table[0].temp then 0
  else if table[15].temp ≤ t then table[15].rate
  else (rateAlong t table.toList).toNat

/-! ## The cure second (R114, R117, R118) -/

/-- The extremes after another governing temperature (R118). -/
def widen (e : Option (Int × Int)) (t : Int) : Option (Int × Int) :=
  match e with
  | none => some (t, t)
  | some (lo, hi) => some (min lo t, max hi t)

/-- A cavity's figures after a cure second with a governing temperature, if it has one (R115 to R118). -/
def CavityCure.advanced (table : RateTable) (tg : Option Int) (c : CavityCure) : CavityCure :=
  match tg with
  | none => c
  | some t => { c with dose := min Config.max32 (c.dose + rateFor table t), extremes := widen c.extremes t }

/-- The cavities in order, each with its zone set, after a cure second. -/
def State.advanceCavities (s : State) (table : RateTable) : List CavityCure → List ZoneSet → List CavityCure
  | c :: cs, z :: zs => c.advanced table (s.governing z) :: s.advanceCavities table cs zs
  | cs, _ => cs

/-- The record's Tg min and Tg max: the lowest of the lowest and the highest of the highest (R118). -/
def recordTg (cs : List CavityCure) : Option (Int × Int) :=
  match lowest (cs.filterMap (fun c => c.extremes.map (·.1))), highest (cs.filterMap (fun c => c.extremes.map (·.2))) with
  | some lo, some hi => some (lo, hi)
  | _, _ => none

/-- Step 2 of a cure second: doses and extremes, here and in the open record. -/
def State.accumulate (s : State) (t : Tool) (r : Recipe) : State :=
  let cs := s.advanceCavities s.rates[r.rateTable] s.cure.cavities t.cavityZones.toList
  (s.setCure { s.cure with elapsed := s.cure.elapsed + 1, cavities := cs }).updateOpen
    (fun q => { q with tg := recordTg cs })

/-! ## Faults found (R119, R120) -/

/-- Some zone of a set is in FAULT. -/
def State.someFault (s : State) (zones : ZoneSet) : Bool :=
  allZones.any (fun z => ZoneSet.has zones z && decide (s.zones[z].state = .fault))

/-- Every zone of a set is in FAULT. -/
def State.allFault (s : State) (zones : ZoneSet) : Bool :=
  allZones.all (fun z => !ZoneSet.has zones z || decide (s.zones[z].state = .fault))

/-- Some used zone of the mounted tool is not SETTLED. -/
def State.someUnsettled (s : State) : Bool :=
  allZones.any (fun z => s.usesZone z && decide (s.zones[z].state ≠ .settled))

/-- A fault is added if a condition holds. -/
def State.addFaultIf (s : State) (b : Bool) (c : FaultCode) : State := if b then s.addFault c else s

/-- Step 3 of a cure second: the faults of the zones (R119, R120). -/
def State.judgeZones (s : State) (t : Tool) : State :=
  let sets := t.cavityZones.toList.take s.cure.cavities.length
  ((s.addFaultIf (sets.any s.someFault) .sensorLost).addFaultIf (sets.any s.allFault)
    .noGoverningSensor).addFaultIf s.someUnsettled .tempExcursion

/-! ## The release decision (R121) -/

/-- A cavity has its dose. -/
def CavityCure.met (c : CavityCure) : Bool := decide (c.required ≤ c.dose)

/-- Step 4 of a cure second, by the rows of R121; the notice and the record's values come before the
cycle controller is told. -/
def State.decideRelease (s : State) (r : Recipe) : State :=
  if s.cure.cavities.all (·.met) ∧ r.minCure ≤ s.cure.elapsed then
    (s.post .cureMet s.openSubject (some s.cure.elapsed)).stopCure
  else if r.maxCure ≤ s.cure.elapsed then
    (((s.addFault .undercure).setOutcome .undercured).post .undercured s.openSubject
      (some (s.cure.cavities.filter (fun c => !c.met)).length)).stopCure
  else s

/-- The whole work of a cure second, in the order of R114. -/
def State.cureWork (s : State) (t : Tool) (r : Recipe) : State :=
  ((s.cureMoment.accumulate t r).judgeZones t).decideRelease r

/-- The mounted tool and its active recipe while a cure accumulates. -/
def State.curing (s : State) : Option (Tool × Recipe) :=
  if s.cycle.state = .curing ∧ s.cure.phase = .accumulating then
    match s.mountedTool with
    | none => none
    | some t => t.active.map (fun r => (t, r))
  else none

/-- CURE_SECOND (R114). A cure second falls only while a cure accumulates (log 1). -/
def execCureSecond (s : State) : Host.Outcome State Fault Refusal :=
  .next (s.unlessHeld
    (match s.curing with
     | none => s
     | some (t, r) => s.cureWork t r))

/-- MAXIMUM_CURE_REACHED (R121): the cure second at which the elapsed cure reaches the maximum. -/
def execMaximumCureReached (s : State) : Host.Outcome State Fault Refusal :=
  .next (s.unlessHeld
    (match s.curing with
     | none => s
     | some (t, r) => if r.maxCure ≤ s.cure.elapsed + 1 then s.cureWork t r else s))

end Sys2Proof.Machine
end

