-- ==== Sys2Proof/Machine/Queue.lean ====
section
/-! DEFINITION. The charge queue (chapter 5): joining, expiry, the take at START, the emptying;
DISCARD and LIST CHARGES; the second advance, of which the expiry is part (R84, R153). -/

namespace Sys2Proof.Machine

/-- The queue changes; a change in the set of cavities with a count of 0 is reported to the cycle
controller, which evaluates its ready reasons (R82, R95). -/
def State.changeQueue (s : State) (q : List ChargeEntry) : State :=
  if shortCavities q s.cavityCount = shortCavities s.queue s.cavityCount then s.setQueue q
  else (s.setQueue q).evaluate

/-- The deadline of an entry, held as an unsigned 32-bit number (R83; clamped to it, log 10). -/
def deadlineFor (run outTime : Nat) : Nat := min Config.max32 (run + outTime * 60)

/-- UNMOUNT, or MOUNT with a tool mounted, empties the queue (R88). -/
def State.dropCharges (s : State) : State :=
  (if s.queue.isEmpty then s else s.post .chargesDropped .absent (some s.queue.length)).setQueue []

/-! ## The take at START (R90) -/

/-- The oldest entry that carries a cavity, and the queue without it. -/
def takeOldest (cavity : Nat) : List ChargeEntry → Option (ChargeEntry × List ChargeEntry)
  | [] => none
  | e :: rest =>
    if e.cavity = cavity then some (e, rest)
    else (takeOldest cavity rest).map (fun p => (p.1, e :: p.2))

/-- One entry for each cavity in turn, or none at all. -/
def takeSet : List Nat → List ChargeEntry → Option (List ChargeEntry × List ChargeEntry)
  | [], q => some ([], q)
  | c :: cs, q =>
    match takeOldest c q with
    | none => none
    | some (e, rest) => (takeSet cs rest).map (fun p => (e :: p.1, p.2))

/-! ## Second advance and expiry (R84, R153) -/

/-- The run seconds after an advance; they hold at their greatest value. -/
def nextRun (run : Nat) : Nat := if run < Config.max32 then run + 1 else run

/-- An entry's deadline is reached at some run seconds. -/
def ChargeEntry.due (e : ChargeEntry) (run : Nat) : Bool := decide (e.deadline ≤ run)

/-- Every entry whose deadline is reached is removed, with a CHARGE_EXPIRED for each in queue order. -/
def State.expire (s : State) : State :=
  ((s.queue.filter (·.due s.clocks.run)).foldl
    (fun t e => t.post .chargeExpired (.charge e.number) (some e.cavity)) s).changeQueue
    (s.queue.filter (fun e => !e.due s.clocks.run))

/-- The two counters after an advance: the run seconds hold at the end, the part clock wraps (R153). -/
def Clocks.advanced (c : Clocks) : Clocks where
  part := (c.part + 1) % 4294967296
  run := nextRun c.run

/-- The second advance with the expiry that is part of it. Run seconds that hold do not advance. -/
def State.advanceSecond (s : State) : State :=
  let t := s.secondMoment.setClocks s.clocks.advanced
  if nextRun s.clocks.run = s.clocks.run then t else t.expire

/-- Some entry's deadline is reached at the next advance. -/
def State.expiryDue (s : State) : Bool :=
  decide (nextRun s.clocks.run ≠ s.clocks.run) && s.queue.any (·.due (nextRun s.clocks.run))

/-- SECOND_ADVANCE (R153, R84). -/
def execSecondAdvance (s : State) : Host.Outcome State Fault Refusal :=
  .next (s.unlessHeld s.advanceSecond)

/-- CHARGE_EXPIRY (R84): the advance that reaches some entry's deadline; the advance and the removals
are one event. An advance that reaches none is no such event (log 1). -/
def execChargeExpiry (s : State) : Host.Outcome State Fault Refusal :=
  .next (s.unlessHeld (if s.expiryDue then s.advanceSecond else s))

/-! ## Commands -/

/-- DISCARD (R86). -/
def discardCommand (body : List Byte) (s : State) : Reply :=
  .ofLength (body.length == 2) s
    (match s.queue.find? (fun e => e.number == u16 body 0) with
     | none => .refuse s .notFound
     | some e =>
       .done (s.changeQueue (s.queue.eraseP (fun e => e.number == u16 body 0)))
         (byte e.cavity :: be16 e.mass))

/-- Optional lot text and ply count as records carry them: length, twelve characters padded with 00h,
ply count, each 0 when absent (10.6). -/
def lotPlyBytes (lot : Option (List Byte)) (ply : Option Nat) : List Byte :=
  byte (lot.getD []).length :: ((lot.getD []) ++ List.replicate (12 - (lot.getD []).length) 0)
  ++ [byte (ply.getD 0)]

/-- The charge entry of LIST CHARGES, with its remaining out-time (R87, 10.6). -/
def ChargeEntry.bytes (run : Nat) (e : ChargeEntry) : List Byte :=
  be16 e.number ++ [byte e.cavity] ++ be16 e.mass ++ lotPlyBytes e.lot e.ply ++ be32 e.captureTime
  ++ be32 (e.deadline - run)

/-- The start position LIST CHARGES carries, 0 for an empty body (R87). -/
def startPosition (body : List Byte) : Nat := u8 body 0

/-- LIST CHARGES (R87). -/
def listChargesCommand (body : List Byte) (s : State) : Reply :=
  .ofLength (decide (body.length ≤ 1)) s
    (if 11 < startPosition body then .refuse s .badValue
     else
      let listed := (s.queue.drop (startPosition body)).take Config.chargesReported
      .done s ([byte s.queue.length, byte (startPosition body), byte listed.length]
        ++ (listed.map (·.bytes s.clocks.run)).flatten))

/-- DISCARD. -/
def execDiscard (guard : Byte) (body : List Byte) (s : State) : Host.Outcome State Fault Refusal :=
  .next (s.take 0x38 guard (some (discardCommand body)))

/-- LIST_CHARGES. -/
def execListCharges (guard : Byte) (body : List Byte) (s : State) : Host.Outcome State Fault Refusal :=
  .next (s.take 0x39 guard (some (listChargesCommand body)))

end Sys2Proof.Machine
end

