-- ==== Sys2Proof/Machine/Press.lean ====
section
/-! DEFINITION. The press cycle controller (chapter 6): START, ABORT, the emergency stop, the press and
operator inputs, the close timeout and the open overdue time. -/

namespace Sys2Proof.Machine

/-! ## START (R97, R98) -/

/-- The force mark, absent in an empty body (6.3). -/
def forceOf (body : List Byte) : Bool := u8 body 0 == 1

/-- Tests 4 to 9 of R97: the status of the first ready reason, in their order, that refuses. -/
def startRefusal (r : ReadyReasons) (force : Bool) : Option Status :=
  if r.estop then some .halted
  else if r.heatOff then some .heatOff
  else if r.ringFull then some .ringFull
  else if r.serialSpent then some .serialSpent
  else if r.noCharge then some .noCharge
  else if r.notSettled && !force then some .notSettled
  else none

/-- The required dose of a charge under a recipe (R112, R113); a charge of a cavity the recipe has no
entry for, which no run reaches, needs the base dose (log 16). -/
def Recipe.requiredFor (r : Recipe) (e : ChargeEntry) : Nat :=
  match r.cavities[e.cavity - 1]? with
  | none => r.baseDose * 256
  | some c => requiredDose r.baseDose r.massGain e.mass c.target

/-- The cavity entry of a record for a charge taken (R138). -/
def ChargeEntry.recorded (e : ChargeEntry) (r : Recipe) : RecordCavity where
  charge := e.number
  mass := e.mass
  lot := e.lot
  ply := e.ply
  required := r.requiredFor e
  achieved := 0

/-- The record START opens (R98, R138, R140). Carried past NOT_SETTLED by force, it holds
NOT_SETTLED_AT_START. -/
def State.newRecord (s : State) (slot : SlotIx) (t : Tool) (r : Recipe) (serial : Nat)
    (charges : List ChargeEntry) : PartRecord where
  serial := serial
  opened := true
  toolNumber := t.number
  slot := slot
  revision := t.revision
  startTime := s.clocks.part
  closeTime := none
  releaseTime := none
  takeoutTime := none
  cureDuration := 0
  cavities := charges.map (·.recorded r)
  tg := none
  strokes := 0
  retries := 0
  outcome := .good
  faults := if s.cycle.reasons.notSettled then FaultSet.add 0 .notSettledAtStart else 0
  verdict := !s.cycle.reasons.notSettled

/-- The next serial after one given (R140). -/
def nextSerialAfter (serial : Nat) : Option Nat := if Config.maxSerial ≤ serial then none else some (serial + 1)

/-- The integrator at START (R113). -/
def Cure.pendingFor (r : Recipe) (charges : List ChargeEntry) : Cure where
  phase := .pending
  elapsed := 0
  cavities := charges.map (fun e => ⟨r.requiredFor e, 0, none⟩)

/-- START carried out, in the order of R98. -/
def State.startCycle (s : State) (slot : SlotIx) (t : Tool) (r : Recipe) (serial : Nat)
    (charges rest : List ChargeEntry) : State :=
  ((((s.setQueue rest).setRing
    ⟨s.ring.records ++ [s.newRecord slot t r serial charges], nextSerialAfter serial⟩).setCure
    (Cure.pendingFor r charges)).setTimers { s.timers with close := 0, cure := 0 }).enter .loading

/-- What START needs beyond its tests: the mounted slot, tool and recipe and a serial. A run that
passes R97 has them all; without one START is refused (log 16). -/
def State.startNeeds (s : State) : Except Status (SlotIx × Tool × Recipe × Nat) :=
  match s.cycle.mounted, s.mountedTool, s.activeRecipe, s.ring.nextSerial with
  | some i, some t, some r, some n => .ok (i, t, r, n)
  | _, _, _, none => .error .serialSpent
  | _, _, _, _ => .error .wrongState

/-- START, by the tests of R97 in their order. -/
def startCommand (body : List Byte) (s : State) : Reply :=
  .ofLength (decide (body.length ≤ 1)) s
    (if 1 < u8 body 0 then .refuse s .badValue
     else if !s.cycle.state.waits then .refuse s .wrongState
     else
      match startRefusal s.cycle.reasons (forceOf body) with
      | some st => .refuse s st
      | none =>
        match s.startNeeds with
        | .error st => .refuse s st
        | .ok (i, t, r, serial) =>
          match takeSet (List.range' 1 t.cavityCount) s.queue with
          | none => .refuse s .noCharge
          | some (charges, rest) =>
            .done (s.startCycle i t r serial charges rest)
              (be32 serial ++ (charges.map (fun e => be16 e.number)).flatten))

/-- START. -/
def execStart (guard : Byte) (body : List Byte) (s : State) : Host.Outcome State Fault Refusal :=
  .next (s.take 0x40 guard (some (startCommand body)))

/-! ## ABORT (R105) -/

/-- A fault and the outcome ABORTED in the open record. -/
def State.markAborted (s : State) (c : FaultCode) : State := (s.addFault c).setOutcome .aborted

/-- A cycle in LOADING ends early: no cure, and TAKEOUT (R100, R105, R106, R124). -/
def State.leaveLoading (s : State) : State := s.endPending.enterTakeout

/-- What ABORT does, by cycle state. -/
def State.abortCycle (s : State) : State :=
  match s.cycle.state with
  | .noTool | .standby | .ready | .takeout => s
  | .loading => (s.markAborted .abort).leaveLoading
  | .curing => (s.markAborted .abort).stopCure
  | .release => s.markAborted .abort
  | .ejecting => (s.addFault .abort).abandon

/-- The body of ABORT's answer: the cycle state after the command, or in EJECTING the ejector sub-state
after it (R105). -/
def State.abortReport (s : State) : List Byte :=
  if s.cycle.state = .ejecting then [byte s.abortCycle.ejector.sub.code]
  else [byte s.abortCycle.cycle.state.code]

/-- ABORT (R105). -/
def abortCommand (body : List Byte) (s : State) : Reply :=
  .ofLength (body.length == 0) s
    (if s.cycle.state.running then .done s.abortCycle s.abortReport else .refuse s .wrongState)

/-- ABORT. -/
def execAbort (guard : Byte) (body : List Byte) (s : State) : Host.Outcome State Fault Refusal :=
  .next (s.take 0x41 guard (some (abortCommand body)))

/-! ## The emergency stop (R106, R107) -/

/-- What the rising edge does to the cycle, by state (R106). The fault ESTOP is in the record before a
pending abandonment ends the sequence (log 11). -/
def State.stopCycle (s : State) : State :=
  match s.cycle.state with
  | .noTool => s
  | .standby | .ready => s.evaluate
  | .loading => (s.markAborted .estop).leaveLoading
  | .curing => (s.markAborted .estop).stopCure
  | .release => s.drivePermits.addFault .estop
  | .ejecting => (s.addFault .estop).stopEjector
  | .takeout => s.addFault .estop

/-- E_STOP_RISING (R106, R38, R54): ESTOP is posted, every zone goes OFF, and the cycle is stopped. -/
def execEStopRising (s : State) : Host.Outcome State Fault Refusal :=
  let t := s.setInputs { s.inputs with eStop := true }
  .next (t.unlessHeld (t.post .estop s.openSubject none).followZones.stopCycle)

/-- What the falling edge does to the cycle, by state (R107; in LOADING, where no run brings the edge, the
permit follows by R99). -/
def State.resumeCycle (s : State) : State :=
  match s.cycle.state with
  | .standby | .ready => s.evaluate
  | .loading => s.drivePermits
  | .release => s.drivePermits.leaveRelease
  | .noTool | .curing | .ejecting | .takeout => s

/-- E_STOP_FALLING (R107, R38): zones leave OFF, and the cycle goes on as its state says. -/
def execEStopFalling (s : State) : Host.Outcome State Fault Refusal :=
  let t := s.setInputs { s.inputs with eStop := false }
  .next (t.unlessHeld t.followZones.resumeCycle)

/-! ## The press and operator inputs (R100 to R104, R108) -/

/-- The press has closed in LOADING (R100): the close time is set and the cure begins (R114). -/
def State.beginCure (s : State) : State :=
  (((s.updateOpen (fun r => { r with closeTime := some s.clocks.part })).setCure
    { s.cure with phase := .accumulating }).setTimers { s.timers with cure := 0 }).enter .curing

/-- PRESS_CLOSED_RISING (R100). -/
def execPressClosedRising (s : State) : Host.Outcome State Fault Refusal :=
  let t := s.setInputs { s.inputs with pressClosed := true }
  .next (t.unlessHeld (if s.cycle.state = .loading then t.beginCure else t))

/-- PRESS_CLOSED_FALLING (R101). -/
def execPressClosedFalling (s : State) : Host.Outcome State Fault Refusal :=
  let t := s.setInputs { s.inputs with pressClosed := false }
  .next (t.unlessHeld (if s.cycle.state = .curing then (t.markAborted .openedEarly).stopCure else t))

/-- The close timeout in LOADING ends the cycle as an abort (R100). -/
def State.timeOutClose (s : State) : State :=
  ((s.closeMoment.markAborted .closeTimeout).post .closeOverdue s.openSubject
    (some (s.limitOf (·.closeTimeout)))).leaveLoading

/-- CLOSE_TIMEOUT (R100): the close timer runs in LOADING alone (log 1). -/
def execCloseTimeout (s : State) : Host.Outcome State Fault Refusal :=
  .next (s.unlessHeld (if s.cycle.state = .loading then s.timeOutClose else s))

/-- OPEN_OVERDUE is posted, once in each RELEASE (R102). -/
def State.postOverdue (s : State) : State :=
  (s.openMoment.post .openOverdue s.openSubject (some (s.limitOf (·.openOverdue)))).setCycle
    { s.cycle with overduePosted := true }

/-- OPEN_OVERDUE (R102): the open timer runs in RELEASE alone (log 1). -/
def execOpenOverdue (s : State) : Host.Outcome State Fault Refusal :=
  .next (s.unlessHeld (if s.cycle.state = .release ∧ !s.cycle.overduePosted then s.postOverdue else s))

/-- PRESS_OPEN_RISING (R102). The level is asserted as the edge is judged and stands at `levelAfter`
once it is over (log 2). -/
def execPressOpenRising (levelAfter : Bool) (s : State) : Host.Outcome State Fault Refusal :=
  let t := s.setInputs { s.inputs with pressOpen := levelAfter }
  .next (t.unlessHeld ((s.setInputs { s.inputs with pressOpen := true }).leaveRelease.setInputs t.inputs))

/-- TAKEOUT_CLEAR_RISING (R104): the cycle closes in TAKEOUT; elsewhere the edge is not remembered
(R108). -/
def execTakeoutClearRising (levelAfter : Bool) (s : State) : Host.Outcome State Fault Refusal :=
  let t := s.setInputs { s.inputs with takeoutClear := levelAfter }
  .next (t.unlessHeld ((if s.cycle.state = .takeout then s.closeCycle else s).setInputs t.inputs))

end Sys2Proof.Machine
end

