-- ==== Sys2Proof/Machine/Ring.lean ====
section
/-! DEFINITION. The part record ring's commands (chapter 9): READ PART, READ OLDEST PART, RELEASE PARTS,
SET SERIAL. The ring's writes by other blocks stand in Ops, Transitions and Press. -/

namespace Sys2Proof.Machine

/-- The ring changes; its count reaching or leaving 48, and its serials becoming spent or available
again, are reported to the cycle controller (R147, R95). -/
def State.changeRing (s : State) (r : Ring) : State :=
  if decide (Config.ringPlaces ≤ r.records.length) = decide (Config.ringPlaces ≤ s.ring.records.length)
    ∧ r.nextSerial.isNone = s.ring.nextSerial.isNone then s.setRing r
  else (s.setRing r).evaluate

/-- A cavity entry of a record as it is carried (10.6). -/
def RecordCavity.bytes (c : RecordCavity) : List Byte :=
  be16 c.charge ++ be16 c.mass ++ lotPlyBytes c.lot c.ply ++ be32 c.required ++ be32 c.achieved

/-- The presence byte: close time, release time, take-out time, Tg pair (10.6). -/
def PartRecord.presence (r : PartRecord) : Byte :=
  byte (r.closeTime.isSome.toNat + 2 * r.releaseTime.isSome.toNat + 4 * r.takeoutTime.isSome.toNat
    + 8 * r.tg.isSome.toNat)

/-- A part record as it is carried (10.6); absent times and an absent Tg pair are carried as 0. -/
def PartRecord.bytes (r : PartRecord) : List Byte :=
  be32 r.serial ++ [flag (!r.opened)] ++ be16 r.toolNumber ++ [byte r.slot.number] ++ be16 r.revision
  ++ be32 r.startTime ++ [r.presence] ++ be32 (r.closeTime.getD 0) ++ be32 (r.releaseTime.getD 0)
  ++ be32 (r.takeoutTime.getD 0) ++ be16 r.cureDuration ++ be16s (r.tg.getD (0, 0)).1
  ++ be16s (r.tg.getD (0, 0)).2 ++ [byte r.strokes, byte r.retries, byte r.outcome.code]
  ++ be16 r.faults.toNat ++ [flag r.verdict, byte r.cavities.length]
  ++ (r.cavities.map (·.bytes)).flatten

/-- The answer that reports a record, or NOT_FOUND (R145). -/
def reportRecord (s : State) : Option PartRecord → Reply
  | none => .refuse s .notFound
  | some r => .done s r.bytes

/-- READ PART (R145). -/
def readPartCommand (body : List Byte) (s : State) : Reply :=
  .ofLength (body.length == 4) s (reportRecord s (s.ring.records.find? (fun r => r.serial == u32 body 0)))

/-- READ OLDEST PART (R145). -/
def readOldestPartCommand (body : List Byte) (s : State) : Reply :=
  .ofLength (body.length == 0) s (reportRecord s s.ring.records.head?)

/-- A record RELEASE PARTS removes: CLOSED, with a serial at most s (R146). -/
def PartRecord.releasable (r : PartRecord) (serial : Nat) : Bool := !r.opened && decide (r.serial ≤ serial)

/-- RELEASE PARTS (R146). -/
def releasePartsCommand (body : List Byte) (s : State) : Reply :=
  .ofLength (body.length == 4) s
    (let kept := s.ring.records.dropWhile (·.releasable (u32 body 0))
     .done (s.changeRing { s.ring with records := kept }) [byte (s.ring.records.length - kept.length)])

/-- SET SERIAL, by the tests of R144 in their order. -/
def setSerialCommand (body : List Byte) (s : State) : Reply :=
  .ofLength (body.length == 4) s
    (if s.ring.records.any (·.opened) then .refuse s .wrongState
     else if u32 body 0 = 0 then .refuse s .badValue
     else if s.ring.records.getLast?.any (fun r => decide (u32 body 0 ≤ r.serial)) then .refuse s .badValue
     else .done (s.changeRing { s.ring with nextSerial := some (u32 body 0) }) (be32 (u32 body 0)))

/-- READ_PART. -/
def execReadPart (guard : Byte) (body : List Byte) (s : State) : Host.Outcome State Fault Refusal :=
  .next (s.take 0x50 guard (some (readPartCommand body)))

/-- READ_OLDEST_PART. -/
def execReadOldestPart (guard : Byte) (body : List Byte) (s : State) : Host.Outcome State Fault Refusal :=
  .next (s.take 0x51 guard (some (readOldestPartCommand body)))

/-- RELEASE_PARTS. -/
def execReleaseParts (guard : Byte) (body : List Byte) (s : State) : Host.Outcome State Fault Refusal :=
  .next (s.take 0x52 guard (some (releasePartsCommand body)))

/-- SET_SERIAL. -/
def execSetSerial (guard : Byte) (body : List Byte) (s : State) : Host.Outcome State Fault Refusal :=
  .next (s.take 0x53 guard (some (setSerialCommand body)))

end Sys2Proof.Machine
end

