-- ==== Sys2Proof/Machine/Scale.lean ====
section
/-! DEFINITION. The charge scale (chapter 4): bridge samples, the load state, captures, tare and span;
SET STATION, ARM, CAPTURE, TARE, SPAN and the sample rows. -/

namespace Sys2Proof.Machine

/-! ## From counts to the load state (R60 to R63) -/

/-- A count at a rail (R61). -/
def atRail (c : Int) : Bool := decide (c = 8388607 ∨ c = -8388607 ∨ c = -8388608)

/-- The sample mass, truncated toward zero (R60). -/
def Scale.sampleMass (k : Scale) (c : Int) : Int := Int.tdiv ((c - k.zero) * k.span) 65536

/-- The stability reference and timer after a sample mass (R62). -/
def Scale.stabilise (k : Scale) (mass : Int) : Scale :=
  if k.station.band < |mass - k.reference| then { k with reference := mass, stabilityTimer := 0 }
  else { k with stabilityTimer := min Config.maxStability (k.stabilityTimer + Config.bridgePeriod) }

/-- The load state by the rows of R63 that need no rail. -/
def Scale.judgedLoad (k : Scale) : LoadState :=
  if k.reference ≤ k.station.emptyThreshold then .empty
  else if k.station.capacity < k.reference then .overload
  else if k.station.time ≤ k.stabilityTimer then .steady
  else .moving

/-- The scale after a bridge sample's own work: mass, reference, load state (R60 to R63). -/
def Scale.weigh (k : Scale) (c : Int) : Scale :=
  if atRail c then { k with stabilityTimer := 0, load := .signalFault }
  else
    let k := k.stabilise (k.sampleMass c)
    { k with load := k.judgedLoad }

/-! ## The outcome of a capture (R72, R73) -/

/-- The charge number after another; after 65535 comes 1. -/
def succCharge (n : Nat) : Nat := if n < Config.max16 then n + 1 else 1

/-- A number advanced past every held number; one more trial than there are held numbers finds a free
one (R73). -/
def freeFrom (held : List Nat) : Nat → Nat → Nat
  | 0, n => n
  | fuel + 1, n => if n ∈ held then freeFrom held fuel (succCharge n) else n

/-- The charge numbers held by queued entries and by cavity entries of records in the ring (R73). -/
def State.heldCharges (s : State) : List Nat :=
  s.queue.map (·.number) ++ (s.ring.records.map (fun r => r.cavities.map (·.charge))).flatten

/-- The number the next admitted charge is given (R73). -/
def State.chargeToGive (s : State) : Nat :=
  freeFrom s.heldCharges s.heldCharges.length s.scale.nextCharge

/-- The entry an admitted charge becomes (R72, R81). -/
def State.admittedEntry (s : State) (p : Snapshot) : ChargeEntry where
  number := s.chargeToGive
  cavity := p.cavity
  mass := s.scale.reference.toNat
  lot := p.lot
  ply := p.ply
  captureTime := s.clocks.part
  deadline := deadlineFor s.clocks.run p.outTime

/-- A capture's outcome leaves the scale HELD, its snapshot discarded (R59, R72). -/
def Scale.held (k : Scale) : Scale := { k with capture := .held, snapshot := none }

/-- The charge is not admitted: REJECT goes on and a notice says why (R72). -/
def State.notAdmit (s : State) (kind : NoticeKind) (p : Snapshot) : State :=
  (s.setScale { s.scale.held with reject := true }).post kind (.cavity p.cavity) (some s.scale.reference)

/-- The charge is admitted: numbered, appended as the newest entry, ACCEPT on, CHARGE_ADMITTED posted
(R72, R73, R81). -/
def State.admitCharge (s : State) (p : Snapshot) : State :=
  (((s.setScale { s.scale.held with accept := true, nextCharge := succCharge s.chargeToGive }).changeQueue
    (s.queue ++ [s.admittedEntry p])).post .chargeAdmitted (.charge s.chargeToGive)
    (some s.scale.reference))

/-- A completed capture's outcome, in the order of R72. -/
def State.captureOutcome (s : State) (p : Snapshot) : State :=
  if (p.tolerance : Int) < |s.scale.reference - p.target| then s.notAdmit .chargeRejected p
  else if Config.queuePlaces ≤ s.queue.length then s.notAdmit .queueFull p
  else s.admitCharge p

/-! ## Tare and span (R75, R76) -/

/-- The end of a measurement: it is discarded, the capture state becomes IDLE, a notice is posted. -/
def State.endMeasurement (s : State) (zero span : Int) (kind : NoticeKind) (value : Int) : State :=
  (s.setScale { s.scale with zero := zero, span := span, measurement := none, capture := .idle }).post
    kind .absent (some value)

/-- The mean of a finished measurement, truncated toward zero. -/
def Measurement.mean (m : Measurement) : Int := Int.tdiv m.sum Config.measurementSamples

/-- The sixteenth sample of a measurement (R75, R76). -/
def State.finishMeasurement (s : State) (m : Measurement) : State :=
  match m.kind with
  | .tare => s.endMeasurement m.mean s.scale.span .tareDone m.mean
  | .span reference =>
    let d := m.mean - s.scale.zero
    let factor := (reference * 65536 : Int) / d
    if d ≤ 0 then s.endMeasurement s.scale.zero s.scale.span .spanFailed 2
    else if factor < 1 ∨ Config.maxSpan < factor then s.endMeasurement s.scale.zero s.scale.span .spanFailed 3
    else s.endMeasurement s.scale.zero factor .spanDone factor

/-- The value of SPAN_FAILED at a rail: 0 for a tare, 1 for a span (R75, R76). -/
def MeasureKind.railValue : MeasureKind → Int
  | .tare => 0
  | .span _ => 1

/-- A bridge sample acts on a measurement (R75). -/
def State.measure (s : State) (c : Int) (m : Measurement) : State :=
  if atRail c then s.endMeasurement s.scale.zero s.scale.span .spanFailed m.kind.railValue
  else
    let m := { m with taken := m.taken + 1, sum := m.sum + c }
    if Config.measurementSamples ≤ m.taken then s.finishMeasurement m
    else s.setScale { s.scale with measurement := some m }

/-! ## The bridge sample (R60) -/

/-- The pan has been cleared: HELD ends and both lamps go off (R74). -/
def Scale.cleared (k : Scale) : Scale := { k with capture := .idle, accept := false, reject := false }

/-- What the sample does to the capture or measurement in progress (R69, R74, R75); `before` is the
load state judged at the sample before. -/
def State.actOnCapture (s : State) (before : LoadState) (c : Int) : State :=
  match s.scale.capture with
  | .idle => s
  | .waiting =>
    match s.scale.snapshot with
    | none => s
    | some p => if s.scale.load = .steady then s.captureOutcome p else s
  | .held => if s.scale.load = .empty ∧ before ≠ .empty then s.setScale s.scale.cleared else s
  | .measuring =>
    match s.scale.measurement with
    | none => s
    | some m => s.measure c m

/-- The whole work of one bridge sample, in the order of R60. -/
def State.sampleBridge (s : State) (count : BitVec 24) : State :=
  let t := s.bridgeMoment
  (t.setScale (t.scale.weigh count.toInt)).actOnCapture s.scale.load count.toInt

/-- BRIDGE_SAMPLE (R60). -/
def execBridgeSample (count : BitVec 24) (s : State) : Host.Outcome State Fault Refusal :=
  .next (s.unlessHeld (s.sampleBridge count))

/-- CAPTURE_COMPLETE (R69, R72): the bridge sample that a waiting capture finds STEADY. A sample that
does not complete a capture is no such event (log 1). -/
def execCaptureComplete (count : BitVec 24) (s : State) : Host.Outcome State Fault Refusal :=
  .next (s.unlessHeld
    (if s.scale.capture = .waiting ∧ (s.scale.weigh count.toInt).load = .steady then s.sampleBridge count else s))

/-- The next sample not at a rail is the sixteenth of the measurement in progress. -/
def Scale.lastSample (k : Scale) (c : Int) (isTare : Bool) : Bool :=
  match k.capture, k.measurement with
  | .measuring, some m =>
    decide (Config.measurementSamples ≤ m.taken + 1) && !atRail c
    && (match m.kind with | .tare => isTare | .span _ => !isTare)
  | _, _ => false

/-- TARE_COMPLETE (R75): the sixteenth bridge sample of a tare. -/
def execTareComplete (count : BitVec 24) (s : State) : Host.Outcome State Fault Refusal :=
  .next (s.unlessHeld (if s.scale.lastSample count.toInt true then s.sampleBridge count else s))

/-- SPAN_COMPLETE (R76): the sixteenth bridge sample of a span. -/
def execSpanComplete (count : BitVec 24) (s : State) : Host.Outcome State Fault Refusal :=
  .next (s.unlessHeld (if s.scale.lastSample count.toInt false then s.sampleBridge count else s))

/-! ## The capture request and its timeout (R68, R70) -/

/-- The snapshot a capture takes at its request (R68); absent where the mounted tool's recipe has no
entry for the armed cavity, which no run reaches (log 16). -/
def State.snapshotFor (s : State) (a : Arming) : Option Snapshot :=
  match s.activeRecipe with
  | none => none
  | some r =>
    (r.cavities[a.cavity - 1]?).map (fun e =>
      ⟨a.cavity, a.lot, a.ply, e.target, e.tolerance, e.outTime, s.scale.station.captureTimeout⟩)

/-- The snapshot a request begins a capture with, absent if the request finds nothing armed. -/
def State.armedSnapshot (s : State) : Option Snapshot :=
  match s.scale.arming with
  | none => none
  | some a => s.snapshotFor a

/-- A capture begins (R68). -/
def State.beginCapture (s : State) (p : Snapshot) : State :=
  (s.setScale { s.scale with capture := .waiting, snapshot := some p }).setTimers
    { s.timers with capture := 0 }

/-- CAPTURE (R68). -/
def captureCommand (body : List Byte) (s : State) : Reply :=
  .ofLength (body.length == 0) s
    (if s.scale.capture ≠ .idle then .refuse s .wrongState
     else
      match s.armedSnapshot with
      | none => .refuse s .notArmed
      | some p => .done (s.beginCapture p) [byte p.cavity])

/-- The key's request: it begins a capture where the command would, and is ignored elsewhere (R68). -/
def State.keyRequest (s : State) : State :=
  if s.scale.capture ≠ .idle then s
  else
    match s.armedSnapshot with
    | none => s
    | some p => s.beginCapture p

/-- CAPTURE_KEY_RISING (R68). -/
def execCaptureKeyRising (levelAfter : Bool) (s : State) : Host.Outcome State Fault Refusal :=
  let t := s.setInputs { s.inputs with captureKey := levelAfter }
  .next (t.unlessHeld (s.keyRequest.setInputs t.inputs))

/-- The capture fails at its timeout (R70). -/
def State.failCapture (s : State) (p : Snapshot) : State :=
  (s.setScale { s.scale.held with reject := true }).post .captureFailed (.cavity p.cavity)
    s.scale.load.failureValue

/-- CAPTURE_TIMEOUT (R70): the capture timer reaches the timeout in WAITING. With a STEADY load there
is no such event, since the STEADY sample would have completed the capture (log 1). -/
def execCaptureTimeout (s : State) : Host.Outcome State Fault Refusal :=
  .next (s.unlessHeld (match s.scale.capture, s.scale.snapshot with
    | .waiting, some p => if s.scale.load = .steady then s else s.captureMoment.failCapture p
    | _, _ => s))

/-! ## Cancelling (R67, R71) -/

/-- A waiting capture is cancelled, without a notice (R71). -/
def State.cancelWaiting (s : State) : State :=
  if s.scale.capture = .waiting then
    (s.setScale { s.scale with capture := .idle, snapshot := none }).setTimers { s.timers with capture := 0 }
  else s

/-- The arming record is cleared (R67). -/
def State.disarm (s : State) : State := s.setScale { s.scale with arming := none }

/-! ## Commands -/

/-- SET STATION (R64, R65). -/
def setStationCommand (body : List Byte) (s : State) : Reply :=
  .ofLength (body.length == 10) s
    (if stationInRange (stationOf body) then .done (s.setScale { s.scale with station := stationOf body }) []
     else .refuse s .badValue)

/-- ARM, by the tests of R66 in their order. -/
def armCommand (body : List Byte) (s : State) : Reply :=
  .ofLength (armLengthAgrees body) s
    (let a := armingOf body
     match s.mountedTool with
     | none => .refuse s .wrongState
     | some t =>
       if a.cavity < 1 ∨ t.cavityCount < a.cavity then .refuse s .badValue
       else if lotInRange a.lot && plyInRange a.ply then
         .done (s.setScale { s.scale with arming := some a }) []
       else .refuse s .badValue)

/-- A measurement begins (R75, R76). -/
def State.beginMeasurement (s : State) (kind : MeasureKind) : State :=
  s.setScale { s.scale with capture := .measuring, measurement := some ⟨kind, 0, 0⟩ }

/-- TARE (R75). -/
def tareCommand (body : List Byte) (s : State) : Reply :=
  .ofLength (body.length == 0) s
    (if s.scale.capture ≠ .idle then .refuse s .wrongState else .done (s.beginMeasurement .tare) [])

/-- SPAN (R76). -/
def spanCommand (body : List Byte) (s : State) : Reply :=
  .ofLength (body.length == 2) s
    (if u16 body 0 < 100 ∨ 65000 < u16 body 0 then .refuse s .badValue
     else if s.scale.capture ≠ .idle then .refuse s .wrongState
     else .done (s.beginMeasurement (.span (u16 body 0))) [])

/-- SET_STATION. -/
def execSetStation (guard : Byte) (body : List Byte) (s : State) : Host.Outcome State Fault Refusal :=
  .next (s.take 0x30 guard (some (setStationCommand body)))

/-- ARM. -/
def execArm (guard : Byte) (body : List Byte) (s : State) : Host.Outcome State Fault Refusal :=
  .next (s.take 0x31 guard (some (armCommand body)))

/-- CAPTURE. -/
def execCapture (guard : Byte) (body : List Byte) (s : State) : Host.Outcome State Fault Refusal :=
  .next (s.take 0x32 guard (some (captureCommand body)))

/-- TARE. -/
def execTare (guard : Byte) (body : List Byte) (s : State) : Host.Outcome State Fault Refusal :=
  .next (s.take 0x33 guard (some (tareCommand body)))

/-- SPAN. -/
def execSpan (guard : Byte) (body : List Byte) (s : State) : Host.Outcome State Fault Refusal :=
  .next (s.take 0x34 guard (some (spanCommand body)))

end Sys2Proof.Machine
end

