-- ==== Sys2Proof/Machine/Tools.lean ====
section
/-! DEFINITION. The tool table (chapter 1): DEFINE TOOL, CLEAR TOOL, STAGE RECIPE, LOAD RATES, MOUNT and
UNMOUNT. -/

namespace Sys2Proof.Machine

/-- The slot that holds a tool number; 0 matches no slot (R1). -/
def State.slotOf (s : State) (number : Nat) : Option SlotIx :=
  if number = 0 then none
  else allSlots.find? (fun i => match s.tools[i] with | none => false | some t => t.number == number)

/-- The lowest-numbered empty slot (R4). -/
def State.emptySlot (s : State) : Option SlotIx := allSlots.find? (fun i => s.tools[i].isNone)

/-- A slot is the mounted one. -/
def State.isMounted (s : State) (i : SlotIx) : Bool := s.cycle.mounted == some i

/-- A slot takes a definition: a redefinition keeps the slot's revision and discards both recipes (R4). -/
def State.writeTool (s : State) (i : SlotIx) (t : Tool) : State :=
  s.setTools (s.tools.set i (some { t with
    revision := match s.tools[i] with | none => 0 | some old => old.revision }))

/-- DEFINE TOOL, by the tests of R3 in their order, and R4. -/
def defineToolCommand (body : List Byte) (s : State) : Reply :=
  .ofLength (body.length == 13) s
    (if !toolInRange body then .refuse s .badValue
     else
      match s.slotOf (u16 body 0) with
      | some i =>
        if s.isMounted i then .refuse s .inUse
        else .done (s.writeTool i (toolOf body)) [byte i.number, 1]
      | none =>
        match s.emptySlot with
        | none => .refuse s .tableFull
        | some i => .done (s.writeTool i (toolOf body)) [byte i.number, 0])

/-- CLEAR TOOL (R5). -/
def clearToolCommand (body : List Byte) (s : State) : Reply :=
  .ofLength (body.length == 2) s
    (match s.slotOf (u16 body 0) with
     | none => .refuse s .unknownTool
     | some i => if s.isMounted i then .refuse s .inUse else .done (s.setTools (s.tools.set i none)) [])

/-- The recipe is stored as the slot's staged recipe (R8). -/
def State.stage (s : State) (i : SlotIx) (r : Recipe) : State :=
  s.setTools (s.tools.set i ((s.tools[i]).map (fun t => { t with staged := some r })))

/-- A staged recipe waits just for the mounted tool in a running state (R9). -/
def State.recipeWaits (s : State) (i : SlotIx) : Bool := s.isMounted i && s.cycle.state.running

/-- The disposition of a newly staged recipe (R9): it waits, or is promoted at once; promotion of the
mounted tool's recipe reaches the zones and the ready reasons (R12). -/
def State.dispose (s : State) (i : SlotIx) : State :=
  if s.recipeWaits i then s
  else if s.isMounted i then s.promoteMounted.evaluate
  else s.promote i

/-- A slot's recipe revision. -/
def State.revisionOf (s : State) (i : SlotIx) : Nat :=
  match s.tools[i] with
  | none => 0
  | some t => t.revision

/-- STAGE RECIPE, by the tests of R8 in their order. -/
def stageRecipeCommand (body : List Byte) (s : State) : Reply :=
  .ofLength (recipeLengthAgrees body) s
    (match s.slotOf (u16 body 0) with
     | none => .refuse s .unknownTool
     | some i =>
       match s.tools[i] with
       | none => .refuse s .unknownTool
       | some t =>
         if recipeZonesFit t.used body && decide (cavityCountOf body = t.cavityCount) && recipeFieldsFit body then
           let u := (s.stage i (recipeOf s.zones body)).dispose i
           .doneOr (recipeClamps s.zones body) u
             ([byte i.number, flag (s.recipeWaits i)] ++ be16 (u.revisionOf i))
         else .refuse s .badValue)

/-- The running cure takes its rates from a table (R14 test 4, R15). -/
def State.ratesInUse (s : State) (table : Nat) : Bool :=
  s.cycle.state == .curing &&
    (match s.activeRecipe with | none => false | some r => r.rateTable.val == table)

/-- LOAD RATES, by the tests of R14 in their order. -/
def loadRatesCommand (body : List Byte) (s : State) : Reply :=
  .ofLength (body.length == 65) s
    (if !ratesInRange body then .refuse s .badValue
     else if s.ratesInUse (u8 body 0) then .refuse s .inUse
     else .done (s.setRates (s.rates.set (Fin.ofNat 4 (u8 body 0)) (rateTableOf body))) [])

/-- What unmounting does to the queue, the arming record and a waiting capture (R18). -/
def State.releaseStation (s : State) : State := s.dropCharges.disarm.cancelWaiting

/-- Another slot is mounted, or none. -/
def State.setMounted (s : State) (m : Option SlotIx) : State := s.setCycle { s.cycle with mounted := m }

/-- A former tool is unmounted before a new one is mounted (R17 step 1). -/
def State.unmountFormer (s : State) : State :=
  if s.cycle.mounted.isSome then s.releaseStation else s.disarm

/-- MOUNT carried out, in the order of R17. -/
def State.mountSlot (s : State) (i : SlotIx) : State :=
  (((s.unmountFormer.setMounted (some i)).setWorkings).enter .standby).evaluate

/-- MOUNT, by the tests of R16 in their order. -/
def mountCommand (body : List Byte) (s : State) : Reply :=
  .ofLength (body.length == 2) s
    (if s.cycle.state.running then .refuse s .wrongState
     else
      match s.slotOf (u16 body 0) with
      | none => .refuse s .unknownTool
      | some i =>
        match s.tools[i] with
        | none => .refuse s .unknownTool
        | some t =>
          if t.active.isNone then .refuse s .noRecipe
          else .done (s.mountSlot i) (byte i.number :: be16 t.revision ++ [byte t.cavityCount]))

/-- UNMOUNT carried out (R18). CHARGES_DROPPED is posted before any notice the zones post at their standby figures;
R18 gives no order (the model's choice: log 17). -/
def State.unmountTool (s : State) : State :=
  ((s.releaseStation.setMounted none).setWorkings).enter .noTool

/-- UNMOUNT (R18). -/
def unmountCommand (body : List Byte) (s : State) : Reply :=
  .ofLength (body.length == 0) s
    (if s.cycle.state.waits then .done s.unmountTool [] else .refuse s .wrongState)

/-- DEFINE_TOOL. -/
def execDefineTool (guard : Byte) (body : List Byte) (s : State) : Host.Outcome State Fault Refusal :=
  .next (s.take 0x10 guard (some (defineToolCommand body)))

/-- CLEAR_TOOL. -/
def execClearTool (guard : Byte) (body : List Byte) (s : State) : Host.Outcome State Fault Refusal :=
  .next (s.take 0x11 guard (some (clearToolCommand body)))

/-- STAGE_RECIPE. -/
def execStageRecipe (guard : Byte) (body : List Byte) (s : State) : Host.Outcome State Fault Refusal :=
  .next (s.take 0x12 guard (some (stageRecipeCommand body)))

/-- LOAD_RATES. -/
def execLoadRates (guard : Byte) (body : List Byte) (s : State) : Host.Outcome State Fault Refusal :=
  .next (s.take 0x13 guard (some (loadRatesCommand body)))

/-- MOUNT. -/
def execMount (guard : Byte) (body : List Byte) (s : State) : Host.Outcome State Fault Refusal :=
  .next (s.take 0x14 guard (some (mountCommand body)))

/-- UNMOUNT. -/
def execUnmount (guard : Byte) (body : List Byte) (s : State) : Host.Outcome State Fault Refusal :=
  .next (s.take 0x15 guard (some (unmountCommand body)))

end Sys2Proof.Machine
end

