-- ==== Sys2Proof/Machine/Link.lean ====
section
/-! DEFINITION. The port's own commands and events (chapter 10): power-on and the RESET pin, IDENTIFY,
READ STATUS, READ NOTICES, SET CLOCK, RESTART and its action at the end of its answer (R109, R154). -/

namespace Sys2Proof.Machine

/-- Power-on or the RESET pin: every block at its reset values. The levels of the other input lines are the
environment's and stay (log 2), as do the model's own queue and count of drawings. -/
def State.powerOn (s : State) (held : Bool) : State :=
  ((State.reset.setInputs { s.inputs with resetPin := held }).setDraws s.draws).setPending s.pending

/-- While the RESET pin is held POWER_UP is not queued yet, and ATTN is negated (R156). -/
def State.powerOnHeld (s : State) : State := (s.powerOn true).setNotices ⟨[], false, false⟩

/-- POWER_ON_RESET (R156): with the pin still held the part stays in reset; with it released the reset ends, and
POWER_UP is queued. -/
def execPowerOnReset (s : State) (levelAfter : Bool := false) : Host.Outcome State Fault Refusal :=
  .next (if levelAfter then s.powerOnHeld else s.powerOn false)

/-! ## IDENTIFY and READ STATUS (R152) -/

/-- IDENTIFY (R152). -/
def identifyCommand (body : List Byte) (s : State) : Reply :=
  .ofLength (body.length == 0) s
    (.done s (Config.vendorCode ++ be16 Config.partCode ++ [byte Config.siliconRevision]))

/-- The ready reasons as they are carried (10.6). -/
def ReadyReasons.byte (r : ReadyReasons) : Byte :=
  Machine.byte (r.heatOff.toNat + 2 * r.estop.toNat + 4 * r.notSettled.toNat + 8 * r.noCharge.toNat
    + 16 * r.ringFull.toNat + 32 * r.serialSpent.toNat)

/-- The displayed mass: R clamped to 0 to 65000 (R78). -/
def Scale.displayed (k : Scale) : Nat := (max 0 (min 65000 k.reference)).toNat

/-- The ready reasons reported: none outside STANDBY and READY (R110). -/
def State.reportedReasons (s : State) : ReadyReasons :=
  if s.cycle.state.waits then s.cycle.reasons else ReadyReasons.none

/-- The status summary (10.6). -/
def State.statusSummary (s : State) : List Byte :=
  [byte s.cycle.state.code, flag s.cycle.ready, flag s.cycle.clean, s.reportedReasons.byte,
    flag s.drive.master, flag s.inputs.eStop, byte s.scale.load.code, byte s.scale.capture.code]
  ++ be16 s.scale.displayed ++ [byte s.queue.length, byte s.ring.records.length]
  ++ be32 (s.ring.nextSerial.getD 0) ++ be32 s.clocks.part
  ++ [byte s.notices.list.length, flag s.notices.lapsed]

/-- READ STATUS (R152). -/
def readStatusCommand (body : List Byte) (s : State) : Reply :=
  .ofLength (body.length == 0) s (.done s s.statusSummary)

/-! ## READ NOTICES (R157) and SET CLOCK (R153) -/

/-- A notice as it is carried (10.6). -/
def Notice.bytes (n : Notice) : List Byte :=
  [byte n.kind.code] ++ be32 n.time ++ [byte n.subject.code] ++ be32 n.subject.number
  ++ [flag n.value.isSome] ++ be32s (n.value.getD 0)

/-- The reported notices leave the queue and the lapsed marker is cleared. -/
def NoticeQueue.reported (q : NoticeQueue) : NoticeQueue :=
  NoticeQueue.driven { q with list := q.list.drop Config.noticesReported, lapsed := false }

/-- READ NOTICES (R157). -/
def readNoticesCommand (body : List Byte) (s : State) : Reply :=
  .ofLength (body.length == 0) s
    (let l := s.notices.list.take Config.noticesReported
     .done (s.setNotices s.notices.reported)
      ([flag s.notices.lapsed, byte l.length] ++ (l.map (·.bytes)).flatten))

/-- SET CLOCK (R153). -/
def setClockCommand (body : List Byte) (s : State) : Reply :=
  .ofLength (body.length == 4) s
    (.done (s.setClocks { s.clocks with part := u32 body 0 }) (be32 (u32 body 0)))

/-! ## RESTART (R109, R154) -/

/-- RESTART taken: its answer is composed, and it waits to act (R154). -/
def restartCommand (body : List Byte) (s : State) : Reply :=
  .ofLength (body.length == 0) s (.done (s.setPort { s.port with restartTaken := true }) [])

/-- Step 1 of R109: the heat master off, and every zone OFF with its output cut and its stale mark kept (R37,
R58). -/
def State.restartHeat (s : State) : State :=
  (s.setDrive { s.drive with master := false }).applyZones (fun _ u => u.keepStale.goOff)

/-- Step 2 of R109: what an interrupted cycle leaves in its record. -/
def State.restartFindings (s : State) : State :=
  match s.cycle.state with
  | .curing => s.endCure
  | .ejecting => s.updateOpen (fun r => { r with strokes := s.ejector.strokes, retries := s.ejector.retries })
  | .noTool | .standby | .ready | .loading | .release | .takeout => s

/-- Step 2 of R109: the open record is marked and closed, and a waiting recipe is promoted (R11). -/
def State.restartClose (s : State) : State :=
  if s.cycle.state.running then ((s.restartFindings.markAborted .restart).closeRecord).promoteMounted else s

/-- The charge scale at RESTART (R77). -/
def Scale.restarted (k : Scale) : Scale :=
  { k with capture := .idle, arming := none, snapshot := none, measurement := none, accept := false, reject := false }

/-- The timers RESTART stops (R59, R93, R109, R111, R127). -/
def Timers.restarted (t : Timers) : Timers := { t with close := 0, opening := 0, stroke := 0, capture := 0, cure := 0 }

/-- Steps 3 to 5 of R109: CLEAN false, the queue and the scale emptied, the tool unmounted, NO_TOOL. -/
def State.restartUnmount (s : State) : State :=
  ((((((s.setEjector Ejector.reset).setCure Cure.reset).setTimers s.timers.restarted).setQueue []).setScale
    s.scale.restarted).setCycle
    { s.cycle with clean := false, overduePosted := false, mounted := none }).setWorkings.enter .noTool

/-- RESTART acts (R109, R154): the blocks in order, then the notice queue. -/
def State.restartAct (s : State) : State := s.restartHeat.restartClose.restartUnmount.restartNotices

/-- The port with no answer owed; it keeps its receive state (R149, R150). -/
def Port.answered (p : Port) : Port := { p with answerOwed := false, answer := none, restartTaken := false }

/-- The last byte of the owed answer has been sent. -/
def State.answerSent (s : State) : State :=
  let t := if s.port.restartTaken then s.restartAct else s
  t.setPort t.port.answered

/-- ANSWER_SENT (R150, R154). With no answer owed none is being sent (log 1). -/
def execAnswerSent (s : State) : Host.Outcome State Fault Refusal :=
  .next (s.unlessHeld (if s.port.answerOwed then s.answerSent else s))

/-! ## The command rows -/

/-- IDENTIFY. -/
def execIdentify (guard : Byte) (body : List Byte) (s : State) : Host.Outcome State Fault Refusal :=
  .next (s.take 0x01 guard (some (identifyCommand body)))

/-- READ_STATUS. -/
def execReadStatus (guard : Byte) (body : List Byte) (s : State) : Host.Outcome State Fault Refusal :=
  .next (s.take 0x02 guard (some (readStatusCommand body)))

/-- READ_NOTICES. -/
def execReadNotices (guard : Byte) (body : List Byte) (s : State) : Host.Outcome State Fault Refusal :=
  .next (s.take 0x04 guard (some (readNoticesCommand body)))

/-- SET_CLOCK. -/
def execSetClock (guard : Byte) (body : List Byte) (s : State) : Host.Outcome State Fault Refusal :=
  .next (s.take 0x05 guard (some (setClockCommand body)))

/-- RESTART. -/
def execRestart (guard : Byte) (body : List Byte) (s : State) : Host.Outcome State Fault Refusal :=
  .next (s.take 0x06 guard (some (restartCommand body)))

end Sys2Proof.Machine
end

