-- ==== Sys2Proof/WellFormed.lean ====
section
/-! DEFINITION. Which commands the line and the converters can bring: a telegram's body fits its length
byte, an unknown kind is unknown, a reading is one the converter delivers, discarded bytes are the
bytes of one telegram. -/

namespace Sys2Proof

/-- The kind bytes of the table of 10.5. -/
def kindBytes : List Nat :=
  [0x01, 0x02, 0x03, 0x04, 0x05, 0x06, 0x10, 0x11, 0x12, 0x13, 0x14, 0x15, 0x20, 0x21, 0x22, 0x23,
   0x30, 0x31, 0x32, 0x33, 0x34, 0x38, 0x39, 0x40, 0x41, 0x42, 0x43, 0x50, 0x51, 0x52, 0x53]

/-- A body of 0 to 240 bytes (R148). -/
def bodyFits (body : List Byte) : Bool := decide (body.length ≤ 240)

/-- The bytes of one telegram or of its beginning: at most the sync byte, the length byte, as many bytes as the
greatest length counts, and the two CRC bytes, 246 in all (R148). -/
def lineBytesFit (bytes : List RxByte) : Bool := decide (0 < bytes.length ∧ bytes.length ≤ Config.maxLength + 4)

/-- A reading the converter delivers: open, or within −500 to 4000 (R24). -/
def readingFits : Reading → Bool
  | .openCircuit => true
  | .celsius t => decide (Config.minTemp ≤ t ∧ t ≤ Config.maxTemp)

/-- The well-formed commands. -/
def Instr.wellFormed : Instr → Bool
  | .powerOnReset _ => true
  | .telegramDiscarded bytes => lineBytesFit bytes
  | .interByteGapTimeout => true
  | .unknownKind kind _ body => !kindBytes.contains kind.toNat && bodyFits body
  | .answerSent => true
  | .identify _ body => bodyFits body
  | .readStatus _ body => bodyFits body
  | .readZone _ body => bodyFits body
  | .readNotices _ body => bodyFits body
  | .setClock _ body => bodyFits body
  | .restart _ body => bodyFits body
  | .defineTool _ body => bodyFits body
  | .clearTool _ body => bodyFits body
  | .stageRecipe _ body => bodyFits body
  | .loadRates _ body => bodyFits body
  | .mount _ body => bodyFits body
  | .unmount _ body => bodyFits body
  | .setZone _ body => bodyFits body
  | .setWindow _ body => bodyFits body
  | .setSupply _ body => bodyFits body
  | .heat _ body => bodyFits body
  | .setStation _ body => bodyFits body
  | .arm _ body => bodyFits body
  | .capture _ body => bodyFits body
  | .tare _ body => bodyFits body
  | .span _ body => bodyFits body
  | .discard _ body => bodyFits body
  | .listCharges _ body => bodyFits body
  | .start _ body => bodyFits body
  | .abort _ body => bodyFits body
  | .retryEject _ body => bodyFits body
  | .abandonEject _ body => bodyFits body
  | .readPart _ body => bodyFits body
  | .readOldestPart _ body => bodyFits body
  | .releaseParts _ body => bodyFits body
  | .setSerial _ body => bodyFits body
  | .secondAdvance => true
  | .chargeExpiry => true
  | .zoneSample _ reading => readingFits reading
  | .settleTimeReached _ reading => readingFits reading
  | .zoneFaultEntry _ reading => readingFits reading
  | .zoneRecovery _ reading => readingFits reading
  | .windowStart => true
  | .onTimeEnd _ => true
  | .bridgeSample _ => true
  | .captureKeyRising _ => true
  | .captureComplete _ => true
  | .captureTimeout => true
  | .tareComplete _ => true
  | .spanComplete _ => true
  | .eStopRising => true
  | .eStopFalling => true
  | .pressClosedRising => true
  | .pressClosedFalling => true
  | .closeTimeout => true
  | .cureSecond => true
  | .maximumCureReached => true
  | .openOverdue => true
  | .pressOpenRising _ => true
  | .ejectAtFwdRising _ => true
  | .ejectAtBackRising => true
  | .ejectAtBackFalling => true
  | .ejectStall => true
  | .ejectJam => true
  | .takeoutClearRising _ => true
  | .syncByteReceived => true

end Sys2Proof
end

