-- ==== Sys2Proof/Machine/Line.lean ====
section
/-! DEFINITION. The bytes on RXD (R149): a byte at the port, the command a telegram's kind byte names,
and the rows that bring bytes or end a telegram otherwise. -/

namespace Sys2Proof.Machine

/-- The command kind a kind byte names, with the body it carries (10.5). -/
def commandOf (kind : Byte) (body : List Byte) : Option (State → Reply) :=
  match kind.toNat with
  | 0x01 => some (identifyCommand body)
  | 0x02 => some (readStatusCommand body)
  | 0x03 => some (readZoneCommand body)
  | 0x04 => some (readNoticesCommand body)
  | 0x05 => some (setClockCommand body)
  | 0x06 => some (restartCommand body)
  | 0x10 => some (defineToolCommand body)
  | 0x11 => some (clearToolCommand body)
  | 0x12 => some (stageRecipeCommand body)
  | 0x13 => some (loadRatesCommand body)
  | 0x14 => some (mountCommand body)
  | 0x15 => some (unmountCommand body)
  | 0x20 => some (setZoneCommand body)
  | 0x21 => some (setWindowCommand body)
  | 0x22 => some (setSupplyCommand body)
  | 0x23 => some (heatCommand body)
  | 0x30 => some (setStationCommand body)
  | 0x31 => some (armCommand body)
  | 0x32 => some (captureCommand body)
  | 0x33 => some (tareCommand body)
  | 0x34 => some (spanCommand body)
  | 0x38 => some (discardCommand body)
  | 0x39 => some (listChargesCommand body)
  | 0x40 => some (startCommand body)
  | 0x41 => some (abortCommand body)
  | 0x42 => some (retryEjectCommand body)
  | 0x43 => some (abandonEjectCommand body)
  | 0x50 => some (readPartCommand body)
  | 0x51 => some (readOldestPartCommand body)
  | 0x52 => some (releasePartsCommand body)
  | 0x53 => some (setSerialCommand body)
  | _ => none

/-- The telegram a command row stands for: its kind byte (10.5), its guard byte and its body. The other
rows are events and stand for none. -/
def commandRow : Instr → Option (Byte × Byte × List Byte)
  | .unknownKind kind guard body => some (kind, guard, body)
  | .identify guard body => some (0x01, guard, body)
  | .readStatus guard body => some (0x02, guard, body)
  | .readZone guard body => some (0x03, guard, body)
  | .readNotices guard body => some (0x04, guard, body)
  | .setClock guard body => some (0x05, guard, body)
  | .restart guard body => some (0x06, guard, body)
  | .defineTool guard body => some (0x10, guard, body)
  | .clearTool guard body => some (0x11, guard, body)
  | .stageRecipe guard body => some (0x12, guard, body)
  | .loadRates guard body => some (0x13, guard, body)
  | .mount guard body => some (0x14, guard, body)
  | .unmount guard body => some (0x15, guard, body)
  | .setZone guard body => some (0x20, guard, body)
  | .setWindow guard body => some (0x21, guard, body)
  | .setSupply guard body => some (0x22, guard, body)
  | .heat guard body => some (0x23, guard, body)
  | .setStation guard body => some (0x30, guard, body)
  | .arm guard body => some (0x31, guard, body)
  | .capture guard body => some (0x32, guard, body)
  | .tare guard body => some (0x33, guard, body)
  | .span guard body => some (0x34, guard, body)
  | .discard guard body => some (0x38, guard, body)
  | .listCharges guard body => some (0x39, guard, body)
  | .start guard body => some (0x40, guard, body)
  | .abort guard body => some (0x41, guard, body)
  | .retryEject guard body => some (0x42, guard, body)
  | .abandonEject guard body => some (0x43, guard, body)
  | .readPart guard body => some (0x50, guard, body)
  | .readOldestPart guard body => some (0x51, guard, body)
  | .releaseParts guard body => some (0x52, guard, body)
  | .setSerial guard body => some (0x53, guard, body)
  | .powerOnReset _ | .telegramDiscarded _ | .interByteGapTimeout | .answerSent | .secondAdvance
  | .chargeExpiry | .zoneSample _ _ | .settleTimeReached _ _ | .zoneFaultEntry _ _ | .zoneRecovery _ _
  | .windowStart | .onTimeEnd _ | .bridgeSample _ | .captureKeyRising _ | .captureComplete _
  | .captureTimeout | .tareComplete _ | .spanComplete _ | .eStopRising | .eStopFalling
  | .pressClosedRising | .pressClosedFalling | .closeTimeout | .cureSecond | .maximumCureReached
  | .openOverdue | .pressOpenRising _ | .ejectAtFwdRising _ | .ejectAtBackRising | .ejectAtBackFalling
  | .ejectStall | .ejectJam | .takeoutClearRising _ | .syncByteReceived => none

/-- The receive state in which the next byte is judged: a byte that ends a gap over 20 ms is judged in HUNTING,
the telegram before the gap being discarded (R149). -/
def State.receiveState (s : State) : Receive := if Config.gapLimit < s.timers.gap then .hunting else s.port.receive

/-- A byte arrives at the port: it goes on, or its telegram is complete (R149). None arrives while RESET is
held. -/
def State.receive (s : State) (b : RxByte) : State :=
  let t := s.setTimers { s.timers with gap := 0 }
  s.unlessHeld
    (match receiveByte s.receiveState b with
     | .goesOn r => t.setPort { s.port with receive := r }
     | .complete kind guard body => t.take kind guard (commandOf kind body))

/-- Bytes arrive one after another, each but the first within 20 ms of the one before. -/
def State.receiveAll (s : State) (bytes : List RxByte) : State := bytes.foldl State.receive s

/-- TELEGRAM_DISCARDED (R149, R150): the bytes arrive, and the port does with them what R149 says. The
row is the arrival of bytes the last of which ends a telegram that is discarded: by its length byte,
its CRC, a framing error, or an owed answer (log 3). -/
def execTelegramDiscarded (bytes : List RxByte) (s : State) : Host.Outcome State Fault Refusal :=
  .next (s.receiveAll bytes)

/-- SYNC_BYTE_RECEIVED (R149): a C3h byte without a framing error. In HUNTING it starts a telegram; within
a telegram it is data. -/
def execSyncByteReceived (s : State) : Host.Outcome State Fault Refusal :=
  .next (s.receive ⟨Config.commandSync, false⟩)

/-- INTER_BYTE_GAP_TIMEOUT (R149): more than 20 ms pass after a byte of a telegram, which is discarded.
In HUNTING there is no telegram to discard (log 1). -/
def execInterByteGapTimeout (s : State) : Host.Outcome State Fault Refusal :=
  .next (s.unlessHeld
    (match s.port.receive with
     | .hunting => s
     | .receiving _ => s.gapMoment.hunt))

/-- UNKNOWN_KIND (R151): a telegram whose kind byte names no command kind. One that names a kind is its
own row's (log 1). -/
def execUnknownKind (kind guard : Byte) (body : List Byte) (s : State) : Host.Outcome State Fault Refusal :=
  .next (match commandOf kind body with
    | some _ => s
    | none => s.take kind guard none)

end Sys2Proof.Machine
end

