-- ==== Sys2Proof/Machine/Dispatch.lean ====
section
/-! DEFINITION. The meaning of each command: one arm per constructor of Instr, each one direct call. -/

namespace Sys2Proof.Machine

/-- A command's effect on everything but the queue of waiting commands. -/
def exec (i : Instr) (s : State) : Host.Outcome State Fault Refusal :=
  match i with
  | .powerOnReset levelAfter => Sys2Proof.Machine.execPowerOnReset s levelAfter
  | .telegramDiscarded bytes => Sys2Proof.Machine.execTelegramDiscarded bytes s
  | .interByteGapTimeout => Sys2Proof.Machine.execInterByteGapTimeout s
  | .unknownKind kind guard body => Sys2Proof.Machine.execUnknownKind kind guard body s
  | .answerSent => Sys2Proof.Machine.execAnswerSent s
  | .identify guard body => Sys2Proof.Machine.execIdentify guard body s
  | .readStatus guard body => Sys2Proof.Machine.execReadStatus guard body s
  | .readZone guard body => Sys2Proof.Machine.execReadZone guard body s
  | .readNotices guard body => Sys2Proof.Machine.execReadNotices guard body s
  | .setClock guard body => Sys2Proof.Machine.execSetClock guard body s
  | .restart guard body => Sys2Proof.Machine.execRestart guard body s
  | .defineTool guard body => Sys2Proof.Machine.execDefineTool guard body s
  | .clearTool guard body => Sys2Proof.Machine.execClearTool guard body s
  | .stageRecipe guard body => Sys2Proof.Machine.execStageRecipe guard body s
  | .loadRates guard body => Sys2Proof.Machine.execLoadRates guard body s
  | .mount guard body => Sys2Proof.Machine.execMount guard body s
  | .unmount guard body => Sys2Proof.Machine.execUnmount guard body s
  | .setZone guard body => Sys2Proof.Machine.execSetZone guard body s
  | .setWindow guard body => Sys2Proof.Machine.execSetWindow guard body s
  | .setSupply guard body => Sys2Proof.Machine.execSetSupply guard body s
  | .heat guard body => Sys2Proof.Machine.execHeat guard body s
  | .setStation guard body => Sys2Proof.Machine.execSetStation guard body s
  | .arm guard body => Sys2Proof.Machine.execArm guard body s
  | .capture guard body => Sys2Proof.Machine.execCapture guard body s
  | .tare guard body => Sys2Proof.Machine.execTare guard body s
  | .span guard body => Sys2Proof.Machine.execSpan guard body s
  | .discard guard body => Sys2Proof.Machine.execDiscard guard body s
  | .listCharges guard body => Sys2Proof.Machine.execListCharges guard body s
  | .start guard body => Sys2Proof.Machine.execStart guard body s
  | .abort guard body => Sys2Proof.Machine.execAbort guard body s
  | .retryEject guard body => Sys2Proof.Machine.execRetryEject guard body s
  | .abandonEject guard body => Sys2Proof.Machine.execAbandonEject guard body s
  | .readPart guard body => Sys2Proof.Machine.execReadPart guard body s
  | .readOldestPart guard body => Sys2Proof.Machine.execReadOldestPart guard body s
  | .releaseParts guard body => Sys2Proof.Machine.execReleaseParts guard body s
  | .setSerial guard body => Sys2Proof.Machine.execSetSerial guard body s
  | .secondAdvance => Sys2Proof.Machine.execSecondAdvance s
  | .chargeExpiry => Sys2Proof.Machine.execChargeExpiry s
  | .zoneSample z reading => Sys2Proof.Machine.execZoneSample z reading s
  | .settleTimeReached z reading => Sys2Proof.Machine.execSettleTimeReached z reading s
  | .zoneFaultEntry z reading => Sys2Proof.Machine.execZoneFaultEntry z reading s
  | .zoneRecovery z reading => Sys2Proof.Machine.execZoneRecovery z reading s
  | .windowStart => Sys2Proof.Machine.execWindowStart s
  | .onTimeEnd z => Sys2Proof.Machine.execOnTimeEnd z s
  | .bridgeSample count => Sys2Proof.Machine.execBridgeSample count s
  | .captureKeyRising levelAfter => Sys2Proof.Machine.execCaptureKeyRising levelAfter s
  | .captureComplete count => Sys2Proof.Machine.execCaptureComplete count s
  | .captureTimeout => Sys2Proof.Machine.execCaptureTimeout s
  | .tareComplete count => Sys2Proof.Machine.execTareComplete count s
  | .spanComplete count => Sys2Proof.Machine.execSpanComplete count s
  | .eStopRising => Sys2Proof.Machine.execEStopRising s
  | .eStopFalling => Sys2Proof.Machine.execEStopFalling s
  | .pressClosedRising => Sys2Proof.Machine.execPressClosedRising s
  | .pressClosedFalling => Sys2Proof.Machine.execPressClosedFalling s
  | .closeTimeout => Sys2Proof.Machine.execCloseTimeout s
  | .cureSecond => Sys2Proof.Machine.execCureSecond s
  | .maximumCureReached => Sys2Proof.Machine.execMaximumCureReached s
  | .openOverdue => Sys2Proof.Machine.execOpenOverdue s
  | .pressOpenRising levelAfter => Sys2Proof.Machine.execPressOpenRising levelAfter s
  | .ejectAtFwdRising levelAfter => Sys2Proof.Machine.execEjectAtFwdRising levelAfter s
  | .ejectAtBackRising => Sys2Proof.Machine.execEjectAtBackRising s
  | .ejectAtBackFalling => Sys2Proof.Machine.execEjectAtBackFalling s
  | .ejectStall => Sys2Proof.Machine.execEjectStall s
  | .ejectJam => Sys2Proof.Machine.execEjectJam s
  | .takeoutClearRising levelAfter => Sys2Proof.Machine.execTakeoutClearRising levelAfter s
  | .syncByteReceived => Sys2Proof.Machine.execSyncByteReceived s

end Sys2Proof.Machine
end

