-- ==== Sys2Proof/Machine/Step.lean ====
section
/-! DEFINITION. One step of the part: the command at the front of the queue is carried out, or, with none
waiting, one ms passes. -/

namespace Sys2Proof.Machine

/-- One step. On an empty queue one ms passes (DESIGN CHOICE, log 5), in which nothing runs while RESET is held. -/
def step (s : State) : Host.Outcome State Fault Refusal :=
  match s.pending with
  | [] => .next (s.unlessHeld (s.elapse 1))
  | c :: rest => exec c (s.setPending rest)

/-- The state with the command a word spells at the front of its queue; a word spells none (no row of
the table gives bits), and the state is then as it was. -/
def State.withFetchWord (s : State) (nbits w : Nat) : State :=
  match decodeTableWord nbits w with
  | none => s
  | some c => s.setPending (c :: s.pending)

end Sys2Proof.Machine
end

