-- ==== Sys2Proof/Safety.lean ====
section
/-! DEFINITION. What a sound state of the part is: one invariant for each block, in the terms the
statements use. Each names the rules it comes from; each is meant to hold at reset and to be kept by
every step. -/

namespace Sys2Proof.Machine

/-! ## The line -/

/-- A command sent with this guard is judged by its own tests: no answer is owed (R150), the guard code names a
guard that holds (R151), and RESET is not held (R156). -/
def State.accepts (s : State) (guard : Byte) : Prop :=
  s.port.answerOwed = false ∧ guard.toNat ≤ 7 ∧ guardHolds guard s.cycle = true
    ∧ s.inputs.resetPin = false

/-- The answer of a command that completes, over the state `t` its own rule leaves: the port hunts
again (R149), and the answer is owed (R150). -/
def State.answering (t : State) (kind : Byte) (status : Status) (body : List Byte) : State :=
  t.setPort { t.port with receive := .hunting, answerOwed := true, answer := some ⟨kind, status, body⟩ }

/-- Bytes that all arrive with their stop bit. -/
def cleanly (bytes : List Byte) : List RxByte := bytes.map (fun b => ⟨b, false⟩)

/-- What is in the receive buffer is a telegram still incomplete: nothing yet, or a length byte in its
bounds and fewer bytes than it and the CRC need (R149). -/
def Receive.partly : Receive → Prop
  | .hunting => True
  | .receiving [] => True
  | .receiving (length :: rest) =>
    Config.minLength ≤ length.toNat ∧ length.toNat ≤ Config.maxLength ∧ rest.length < length.toNat + 2

/-- The port (R149, R150, R154): an answer is composed just while one is owed, and RESTART waits to act
only while its answer is owed. -/
structure PortInv (s : State) : Prop where
  partly : s.port.receive.partly
  owed : s.port.answerOwed = s.port.answer.isSome
  restart : s.port.restartTaken = true → s.port.answerOwed = true

/-- The notice queue (R156): at most 16 notices, and ATTN asserted exactly while it holds a notice or
the lapsed marker is set. -/
structure NoticeInv (s : State) : Prop where
  places : s.notices.list.length ≤ 16
  attn : s.notices.attn = (!s.notices.list.isEmpty || s.notices.lapsed)

/-- While RESET is held the part is in its reset state, but that POWER_UP is not queued yet and ATTN is negated
(R156). The input levels are the environment's; the queue of commands and the count of drawings the model's. -/
def HeldInv (s : State) : Prop :=
  s.inputs.resetPin = true → s = { State.reset with
    inputs := s.inputs, notices := ⟨[], false, false⟩, draws := s.draws, pending := s.pending }

/-! ## Bodies a sender forms (10.5) -/

/-- The body of DEFINE TOOL for a tool. -/
def defineToolBody (t : Tool) : List Byte :=
  be16 t.number ++ [byte t.cavityCount] ++ be16 t.cavityZones[0].toNat ++ be16 t.cavityZones[1].toNat
  ++ be16 t.cavityZones[2].toNat ++ be16 t.cavityZones[3].toNat ++ be16 t.support.toNat

/-- The body of LOAD RATES for a table at an index. -/
def loadRatesBody (index : Fin 4) (t : RateTable) : List Byte :=
  byte index.val :: (t.toList.map (fun p => be16s p.temp ++ be16 p.rate)).flatten

/-- The body of STAGE RECIPE for a tool number and a recipe. -/
def stageRecipeBody (number : Nat) (r : Recipe) : List Byte :=
  be16 number ++ be16 r.settleTime ++ [byte r.rateTable.val] ++ be16 r.baseDose ++ be16 r.massGain
  ++ be16 r.minCure ++ be16 r.maxCure ++ be16 r.closeTimeout ++ be16 r.openOverdue ++ [byte r.strokeCount]
  ++ be16 r.strokeTimeout ++ [byte r.zones.length, byte r.cavities.length]
  ++ (r.zones.map (fun e => byte e.zone.number :: (be16s e.setpoint ++ be16s e.band))).flatten
  ++ (r.cavities.map (fun c => be16 c.target ++ be16 c.tolerance ++ be16 c.outTime)).flatten

/-- The body of SET ZONE for a zone and a configuration. -/
def setZoneBody (z : ZoneIx) (c : ZoneConfig) : List Byte :=
  byte z.number :: (be16 c.ratedPower ++ be16s c.lowLimit ++ be16s c.highLimit ++ be16s c.setpointMax
    ++ [byte c.kp.toNat, byte c.ki.toNat] ++ be16s c.hotMargin ++ be16 c.faultHold ++ be16s c.standby
    ++ be16s c.exitHysteresis)

/-- The body of SET STATION for a configuration. -/
def setStationBody (c : Station) : List Byte :=
  be16s c.emptyThreshold ++ be16 c.capacity.toNat ++ be16s c.band ++ be16 c.time ++ be16 c.captureTimeout

/-- The body of ARM for an arming record. -/
def armBody (a : Arming) : List Byte :=
  byte a.cavity :: byte (a.lot.getD []).length :: ((a.lot.getD [])
    ++ match a.ply with | none => [] | some p => [byte p])

/-- The ranges of R19 and the two comparisons of R20. -/
structure ZoneConfig.Fits (c : ZoneConfig) : Prop where
  ratedPower : c.ratedPower ≤ 20000
  low : -500 ≤ c.lowLimit ∧ c.lowLimit < c.highLimit ∧ c.highLimit ≤ 4000
  setpointMax : 0 ≤ c.setpointMax ∧ c.setpointMax ≤ 2800
  gains : 0 ≤ c.kp ∧ c.kp ≤ 255 ∧ 0 ≤ c.ki ∧ c.ki ≤ 255
  hotMargin : 10 ≤ c.hotMargin ∧ c.hotMargin ≤ 1000
  faultHold : c.faultHold ≤ 600
  standby : 0 ≤ c.standby ∧ c.standby ≤ c.setpointMax
  exitHysteresis : 0 ≤ c.exitHysteresis ∧ c.exitHysteresis ≤ 200

/-- What the fields of a SET ZONE body can carry (10.5). -/
structure ZoneConfig.Carried (c : ZoneConfig) : Prop where
  limits : -32768 ≤ c.lowLimit ∧ c.lowLimit ≤ 32767 ∧ -32768 ≤ c.highLimit ∧ c.highLimit ≤ 32767
  words : c.ratedPower < 65536 ∧ c.faultHold < 65536 ∧ 0 ≤ c.setpointMax ∧ c.setpointMax < 65536
    ∧ 0 ≤ c.hotMargin ∧ c.hotMargin < 65536 ∧ 0 ≤ c.standby ∧ c.standby < 65536
    ∧ 0 ≤ c.exitHysteresis ∧ c.exitHysteresis < 65536
  gains : 0 ≤ c.kp ∧ c.kp ≤ 255 ∧ 0 ≤ c.ki ∧ c.ki ≤ 255

/-- The ranges of R64. -/
structure Station.Fits (c : Station) : Prop where
  emptyThreshold : 10 ≤ c.emptyThreshold ∧ c.emptyThreshold ≤ 5000 ∧ c.emptyThreshold < c.capacity
  capacity : 1000 ≤ c.capacity ∧ c.capacity ≤ 65000
  band : 1 ≤ c.band ∧ c.band ≤ 500
  time : 100 ≤ c.time ∧ c.time ≤ 5000
  captureTimeout : 500 ≤ c.captureTimeout ∧ c.captureTimeout ≤ 30000

/-- What ARM takes for a tool of n cavities (R66). -/
structure Arming.Fits (a : Arming) (n : Nat) : Prop where
  cavity : 1 ≤ a.cavity ∧ a.cavity ≤ n
  lot : ∀ l, a.lot = some l → 1 ≤ l.length ∧ l.length ≤ 12 ∧ ∀ b ∈ l, 0x20 ≤ b.toNat ∧ b.toNat ≤ 0x7E
  ply : ∀ p, a.ply = some p → 1 ≤ p ∧ p ≤ 99

/-- What the fields of an ARM body can carry: a lot text that is present has a character (10.5). -/
structure Arming.Carried (a : Arming) : Prop where
  cavity : a.cavity < 256
  lot : ∀ l, a.lot = some l → 1 ≤ l.length ∧ l.length < 256
  ply : ∀ p, a.ply = some p → p < 256

/-- A recipe as a sender may state it for a tool (R6, R7): each used zone named once and nothing else, one
cavity entry for each cavity, every field in its range. A setpoint may lie above its zone's maximum,
up to what its field carries. -/
structure Recipe.Fits (r : Recipe) (t : Tool) : Prop where
  named : (r.zones.map (·.zone)).Nodup ∧ ∀ z : ZoneIx, z ∈ r.zones.map (·.zone) ↔ ZoneSet.has t.used z = true
  entries : ∀ e ∈ r.zones, 0 ≤ e.setpoint ∧ e.setpoint ≤ 32767 ∧ 5 ≤ e.band ∧ e.band ≤ 500
  settleTime : r.settleTime ≤ 3600
  dose : 1 ≤ r.baseDose ∧ r.baseDose ≤ 65535 ∧ r.massGain ≤ 1000
  cure : 10 ≤ r.minCure ∧ r.minCure ≤ r.maxCure ∧ r.maxCure ≤ 3600
  timeouts : 5 ≤ r.closeTimeout ∧ r.closeTimeout ≤ 600 ∧ 5 ≤ r.openOverdue ∧ r.openOverdue ≤ 600
  strokes : 1 ≤ r.strokeCount ∧ r.strokeCount ≤ 4 ∧ 200 ≤ r.strokeTimeout ∧ r.strokeTimeout ≤ 10000
  cavities : r.cavities.length = t.cavityCount ∧ ∀ c ∈ r.cavities, 1 ≤ c.target ∧ c.target ≤ 65000
    ∧ c.tolerance ≤ 5000 ∧ 1 ≤ c.outTime ∧ c.outTime ≤ 1440

/-- What the fields of a STAGE RECIPE body can carry, a setpoint as a signed number (10.5; log 15). -/
structure Recipe.Carried (r : Recipe) : Prop where
  counts : r.zones.length < 256 ∧ r.cavities.length < 256
  entries : ∀ e ∈ r.zones, -32768 ≤ e.setpoint ∧ e.setpoint ≤ 32767 ∧ 0 ≤ e.band ∧ e.band < 65536
  words : r.settleTime < 65536 ∧ r.baseDose < 65536 ∧ r.massGain < 65536 ∧ r.minCure < 65536 ∧ r.maxCure < 65536
    ∧ r.closeTimeout < 65536 ∧ r.openOverdue < 65536 ∧ r.strokeCount < 256 ∧ r.strokeTimeout < 65536
  cavities : ∀ c ∈ r.cavities, c.target < 65536 ∧ c.tolerance < 65536 ∧ c.outTime < 65536

/-- A recipe with each setpoint at most its zone's setpoint maximum, as it is stored (R7). -/
def Recipe.clamped (r : Recipe) (zones : Vector Zone 12) : Recipe :=
  { r with zones := r.zones.map (fun e => { e with setpoint := min e.setpoint zones[e.zone].config.setpointMax }) }

/-! ## Zones and heaters -/

/-- One zone and its heater under the heat master and the level of E_STOP: OFF exactly while a condition
of R26 holds; what an entry to OFF cleared stays cleared (R26, R43, R44); an output that is on belongs
to a zone that is neither OFF nor HOT (R43); the ranges of R19 and R39; a grant never above its request
(R51). -/
structure ZoneSound (master eStop : Bool) (z : Zone) (h : Heater) : Prop where
  off : z.state = .off ↔ master = false ∨ eStop = true ∨ z.setpoint = 0
  cleared : z.state = .off → z.hot = false ∧ z.settleTimer = 0 ∧ z.faultAge = 0
    ∧ h.integrator = 0 ∧ h.lastRequest = 0 ∧ h.lastGrant = 0
  output : h.output = true → z.state ≠ .off ∧ z.hot = false
  plausible : z.plausible ≤ 7 ∧ (z.state ≠ .fault → z.plausible = 0)
  implausible : z.implausible ≤ 2
  running : z.state = .ramp ∨ z.state = .settling ∨ z.state = .settled → z.implausible ≤ 1
  faultAge : z.faultAge ≤ 600000
  integrator : 0 ≤ h.integrator ∧ h.integrator ≤ 64000
  duty : h.lastGrant ≤ h.lastRequest ∧ h.lastRequest ≤ 1000 ∧ h.heldDuty ≤ 1000

/-- All twelve zones are sound. -/
def ZoneInv (s : State) : Prop :=
  ∀ z : ZoneIx, ZoneSound s.drive.master s.inputs.eStop s.zones[z] s.heaters[z]

/-! ## The scale -/

/-- The charge scale (R59, R74, R75): each optional item is present exactly in the capture state that
holds it, a lamp is on only in HELD and at most one is on, and the figures keep their ranges. -/
structure ScaleInv (s : State) : Prop where
  waiting : s.scale.capture = .waiting ↔ s.scale.snapshot.isSome = true
  measuring : s.scale.capture = .measuring ↔ s.scale.measurement.isSome = true
  lamps : s.scale.accept = true ∨ s.scale.reject = true → s.scale.capture = .held
  oneLamp : ¬(s.scale.accept = true ∧ s.scale.reject = true)
  taken : ∀ m, s.scale.measurement = some m → m.taken < 16
  span : 1 ≤ s.scale.span ∧ s.scale.span ≤ 262143
  stability : s.scale.stabilityTimer ≤ 5000
  charge : 1 ≤ s.scale.nextCharge ∧ s.scale.nextCharge ≤ 65535

/-! ## Tools -/

/-- One tool definition (R1, R6): its ranges, its non-empty cavity zone sets, a support set apart from
them, and recipes with one cavity entry for each cavity. -/
structure ToolSound (t : Tool) : Prop where
  number : 1 ≤ t.number ∧ t.number ≤ 65535
  cavities : 1 ≤ t.cavityCount ∧ t.cavityCount ≤ 4
  zones : ∀ c : Fin 4, (c.val < t.cavityCount → t.cavityZones[c] ≠ 0)
    ∧ (t.cavityCount ≤ c.val → t.cavityZones[c] = 0) ∧ t.support &&& t.cavityZones[c] = 0
  active : ∀ r, t.active = some r → r.cavities.length = t.cavityCount ∧ r.minCure ≤ r.maxCure
  staged : ∀ r, t.staged = some r → r.cavities.length = t.cavityCount ∧ r.minCure ≤ r.maxCure
  revision : t.revision ≤ 65535

/-- The tool table (R1, R9): each tool is sound, no two slots hold one number, and a slot holds a staged
recipe only as the mounted slot of a running cycle. -/
structure ToolInv (s : State) : Prop where
  sound : ∀ (i : SlotIx) (t : Tool), s.tools[i] = some t → ToolSound t
  distinct : ∀ (i j : SlotIx) (t u : Tool), s.tools[i] = some t → s.tools[j] = some u →
    t.number = u.number → i = j
  waits : ∀ (i : SlotIx) (t : Tool), s.tools[i] = some t → t.staged.isSome = true →
    s.cycle.mounted = some i ∧ s.cycle.state.running = true

/-! ## The cycle -/

/-- The permits (R99): each is on exactly where R99 has it on. -/
def PermitInv (s : State) : Prop :=
  (s.cycle.closePermit = true ↔
    s.cycle.state = .loading ∧ s.inputs.ejectAtBack = true ∧ s.inputs.eStop = false)
  ∧ (s.cycle.openPermit = true ↔ s.cycle.state = .release ∧ s.inputs.eStop = false)

/-- The cycle controller (R93, R94, R95, R97): a tool with an active recipe is mounted outside NO_TOOL
and none within it; READY is true exactly in the state READY; between cycles the ready reasons are the
conditions as they stand and decide the state, and elsewhere the set is empty. -/
structure CycleInv (s : State) : Prop where
  mounted : s.cycle.state = .noTool ↔ s.cycle.mounted = none
  recipe : ∀ i, s.cycle.mounted = some i → ∃ t r, s.tools[i] = some t ∧ t.active = some r
  ready : s.cycle.ready = true ↔ s.cycle.state = .ready
  agree : s.cycle.state.waits = true → s.cycle.reasons = s.conditions
  decide : s.cycle.state.waits = true → (s.cycle.state = .ready ↔ s.cycle.reasons.isNone = true)
  unused : s.cycle.state.waits = false → s.cycle.reasons = ReadyReasons.none

/-- The ejector sequencer (R99, R127, R135): it leaves IDLE only in EJECTING; EJECT_FWD is on exactly in
EXTENDING; it moves only while E_STOP is negated; at most three retries are used (R133). -/
structure EjectorInv (s : State) : Prop where
  active : s.ejector.sub ≠ .idle ↔ s.cycle.state = .ejecting
  forward : s.ejector.fwd = true ↔ s.ejector.sub = .extending
  moving : s.ejector.sub = .extending ∨ s.ejector.sub = .retracting → s.inputs.eStop = false
  retries : s.ejector.retries ≤ 3

/-- Between cycles the ready reasons of t are the conditions as they stand in t, and READY is their absence; the
rest of the cycle controller is as in s (R94, R95). In any other state all of it is as in s. -/
def Reevaluated (s t : State) : Prop :=
  t.cycle = if s.cycle.state.waits then
    { s.cycle with reasons := t.conditions, ready := t.conditions.isNone,
                   state := if t.conditions.isNone then .ready else .standby }
  else s.cycle

/-! ## Charges and records -/

/-- The part record ring (R93, R138, R139, R141): at most 48 records with strictly rising serials, an OPEN
one only as the newest and exactly in the five running states; the next serial beyond every serial
held; each verdict true exactly when its fault set is empty; a take-out time exactly in a CLOSED
record; at most four cavity entries in each. -/
structure RingInv (s : State) : Prop where
  places : s.ring.records.length ≤ 48
  rising : s.ring.records.Pairwise (fun a b => a.serial < b.serial)
  newest : ∀ r ∈ s.ring.records.dropLast, r.opened = false
  running : s.ring.records.any (·.opened) = s.cycle.state.running
  serials : ∀ r ∈ s.ring.records, 1 ≤ r.serial ∧ r.serial ≤ 4294967295
  next : ∀ n, s.ring.nextSerial = some n →
    (1 ≤ n ∧ n ≤ 4294967295) ∧ ∀ r ∈ s.ring.records, r.serial < n
  verdict : ∀ r ∈ s.ring.records, r.verdict = true ↔ r.faults = 0
  takeout : ∀ r ∈ s.ring.records, r.takeoutTime.isSome = true ↔ r.opened = false
  cavities : ∀ r ∈ s.ring.records, r.cavities.length ≤ 4

/-- The charge queue (R80): at most 12 entries, each for a cavity of the mounted tool; empty with no
tool mounted. The arming record and the capture snapshot name a cavity of the mounted tool (R67). -/
structure QueueInv (s : State) : Prop where
  places : s.queue.length ≤ 12
  cavity : ∀ e ∈ s.queue, 1 ≤ e.cavity ∧ e.cavity ≤ s.cavityCount
  noTool : s.cycle.mounted = none → s.queue = []
  arming : ∀ a, s.scale.arming = some a → 1 ≤ a.cavity ∧ a.cavity ≤ s.cavityCount
  snapshot : ∀ p, s.scale.snapshot = some p → 1 ≤ p.cavity ∧ p.cavity ≤ s.cavityCount

/-- No charge number is held twice, by the queued entries and the cavity entries of records together
(R73, R80, R91). -/
def ChargeInv (s : State) : Prop := s.heldCharges.Nodup

/-- Every cavity entry of a record has at least its required dose. -/
def PartRecord.dosed (r : PartRecord) : Prop := ∀ c ∈ r.cavities, c.required ≤ c.achieved

/-- The cure (R111, R123): the phase goes with the cycle state; while a cure is to come or runs, the open
record's required doses are the integrator's; a record whose cure is over and whose outcome is GOOD
has, for every cavity, an achieved dose at least equal to its required dose. -/
structure CureInv (s : State) : Prop where
  idle : s.cure.phase = .idle ↔ s.cycle.state.running = false
  pending : s.cure.phase = .pending ↔ s.cycle.state = .loading
  accumulating : s.cure.phase = .accumulating ↔ s.cycle.state = .curing
  required : s.cycle.state = .loading ∨ s.cycle.state = .curing →
    ∀ r ∈ s.ring.records, r.opened = true → r.cavities.map (·.required) = s.cure.cavities.map (·.required)
  closed : ∀ r ∈ s.ring.records, r.opened = false → r.outcome = .good → r.dosed
  ended : s.cure.phase = .ended → ∀ r ∈ s.ring.records, r.outcome = .good → r.dosed

end Sys2Proof.Machine
end

