-- ==== Sys2Proof/Certificates/Slice0/Obligations.lean ====
section
/-! DEFINITION. The statements about the DNV412. A rule R<n> named in a docstring is the rule the statement
speaks of; OBLIGATIONS.json says which rules a statement says whole. -/

open Sys2Proof Sys2Proof.Machine

/-! ## The queue of commands and the telegram line (chapter 10) -/

/-- A step with a command waiting is that command's own effect on the state with the queue's rest. The
queue is the model's (INVENTORY.md, Host interface). -/
def Obligations.StepCarriesOutTheFrontCommand : Prop :=
  ∀ (s : State) (c : Instr) (rest : List Instr), s.pending = c :: rest → step s = exec c (s.setPending rest)

/-- What no command touches: the queue of waiting commands, and the run seconds, which, but for a reset, move at the second
advance alone, in either of its two rows, by one or not at all, whatever bytes arrive (R153). -/
def Obligations.QueueAndRunSecondsAreLeftAlone : Prop :=
  ∀ (c : Instr) (s t : State), exec c s = .next t →
    t.pending = s.pending
    ∧ ((∀ b : Bool, c ≠ .powerOnReset b) → t.clocks.run = s.clocks.run
      ∨ ((c = .secondAdvance ∨ c = .chargeExpiry) ∧ s.clocks.run < 4294967295 ∧ t.clocks.run = s.clocks.run + 1))

/-- Receiving the bytes of a command telegram from HUNTING is taking the command its kind, guard and body
spell (R148, R149, 10.5): for every command row, with every guard byte and every body of 0 to 240
bytes. The gap timer stands at 0 after the last byte (log 3). -/
def Obligations.CommandTelegramSpellsItsRow : Prop :=
  ∀ (c : Instr) (s : State) (kind guard : Byte) (body : List Byte), commandRow c = some (kind, guard, body) →
    c.wellFormed = true → s.inputs.resetPin = false → s.port.receive = .hunting →
    exec c (s.setTimers { s.timers with gap := 0 })
      = .next (s.receiveAll (cleanly (commandTelegram kind guard body)))

/-- A telegram is discarded without an answer, a notice or any other trace than the time of its last byte,
and the port hunts again (R149, R150): when its length byte lies outside 2 to 242; when its CRC does not
agree; when a byte after the sync byte comes without its stop bit; and, with an answer owed, even
when it is complete. -/
def Obligations.DiscardedTelegramsLeaveNoTrace : Prop :=
  ∀ (s : State) (kind guard : Byte) (body : List Byte), s.inputs.resetPin = false → s.port.receive = .hunting →
    body.length ≤ 240 →
    (∀ length : Byte, length.toNat < 2 ∨ 242 < length.toNat →
      exec (.telegramDiscarded (cleanly [0xC3, length])) s = .next (s.setTimers { s.timers with gap := 0 }))
    ∧ (∀ high low : Byte, [high, low] ≠ be16 (crc16 (frameContent kind guard body)).toNat →
      exec (.telegramDiscarded (cleanly (0xC3 :: (frameContent kind guard body ++ [high, low])))) s
        = .next (s.setTimers { s.timers with gap := 0 }))
    ∧ (∀ (n : Nat) (value : Byte), n ≤ body.length + 4 →
      exec (.telegramDiscarded (cleanly (0xC3 :: (frameRest kind guard body).take n) ++ [⟨value, true⟩])) s
        = .next (s.setTimers { s.timers with gap := 0 }))
    ∧ (s.port.answerOwed = true →
      exec (.telegramDiscarded (cleanly (commandTelegram kind guard body))) s
        = .next (s.setTimers { s.timers with gap := 0 }))

/-- A C3h byte starts a telegram in HUNTING and is data within one (R149); more than 20 ms without a byte
discards what was received, and leaves all but the timers and the receive state; a byte that ends a gap
over 20 ms is judged in HUNTING, so that C3h starts a new telegram and any other byte none (R149). -/
def Obligations.SyncByteAndGap : Prop :=
  ∀ s : State, s.inputs.resetPin = false →
    (s.port.receive = .hunting → exec .syncByteReceived s
      = .next ((s.setTimers { s.timers with gap := 0 }).setPort { s.port with receive := .receiving [] }))
    ∧ (∀ (length : Byte) (rest : List Byte), s.port.receive = .receiving (length :: rest) → s.timers.gap ≤ 20 →
      2 ≤ length.toNat → length.toNat ≤ 242 → rest.length < length.toNat + 1 →
      exec .syncByteReceived s = .next ((s.setTimers { s.timers with gap := 0 }).setPort
        { s.port with receive := .receiving (length :: (rest ++ [0xC3])) }))
    ∧ (∀ buffer : List Byte, s.port.receive = .receiving buffer → ∃ t,
      exec .interByteGapTimeout s = .next t
      ∧ t = (s.setTimers t.timers).setPort { s.port with receive := .hunting })
    ∧ (20 < s.timers.gap →
      exec .syncByteReceived s
        = .next ((s.setTimers { s.timers with gap := 0 }).setPort { s.port with receive := .receiving [] })
      ∧ ∀ b : RxByte, b.framingError = true ∨ b.value ≠ 0xC3 → exec (.telegramDiscarded [b]) s
        = .next ((s.setTimers { s.timers with gap := 0 }).setPort { s.port with receive := .hunting }))

/-- While an answer is owed, a command telegram that completes has no effect (R150): the port hunts again,
and everything else is as it was. -/
def Obligations.OwedAnswerShutsOutCommands : Prop :=
  ∀ (c : Instr) (s : State) (kind guard : Byte) (body : List Byte), commandRow c = some (kind, guard, body) →
    c.wellFormed = true → s.inputs.resetPin = false → s.port.answerOwed = true →
    exec c s = .next (s.setPort { s.port with receive := .hunting })

/-- The three refusals before a command's own tests, in their order (R151): a guard code above 7, a kind
byte that names no kind, a guard that does not hold. Each is answered with its status and an empty
body, and changes nothing else. -/
def Obligations.GuardRefusalsChangeNothing : Prop :=
  ∀ (c : Instr) (s : State) (kind guard : Byte) (body : List Byte), commandRow c = some (kind, guard, body) →
    c.wellFormed = true → s.inputs.resetPin = false → s.port.answerOwed = false →
    (7 < guard.toNat → exec c s = .next (s.answering kind .badGuard []))
    ∧ (guard.toNat ≤ 7 → c = .unknownKind kind guard body → exec c s = .next (s.answering kind .unknownKind []))
    ∧ (c ≠ .unknownKind kind guard body →
      (guard = 1 ∧ s.cycle.ready = false ∨ guard = 2 ∧ s.cycle.ready = true
        ∨ guard = 3 ∧ s.cycle.clean = false ∨ guard = 4 ∧ s.cycle.clean = true
        ∨ guard = 5 ∧ ¬(s.cycle.ready = true ∧ s.cycle.clean = true)
        ∨ guard = 6 ∧ ¬(s.cycle.ready = true ∧ s.cycle.clean = false)
        ∨ guard = 7 ∧ s.cycle.ready = true ∧ s.cycle.clean = true) →
      exec c s = .next (s.answering kind .passed []))

/-- IDENTIFY, SET CLOCK and RESTART, each taken with its guard holding and a body of its length: the answer,
and its one effect; a body of another length is BAD_LENGTH (R152, R153, R154). -/
def Obligations.PortCommandsComplete : Prop :=
  ∀ (s : State) (guard : Byte), s.accepts guard →
    (∀ body : List Byte,
      (body ≠ [] → exec (.identify guard body) s = .next (s.answering 0x01 .badLength [])
        ∧ exec (.restart guard body) s = .next (s.answering 0x06 .badLength []))
      ∧ (body.length ≠ 4 → exec (.setClock guard body) s = .next (s.answering 0x05 .badLength [])))
    ∧ exec (.identify guard []) s = .next (s.answering 0x01 .done [0x54, 0x5A, 0x01, 0x9C, 3])
    ∧ exec (.restart guard []) s
      = .next ((s.setPort { s.port with restartTaken := true }).answering 0x06 .done [])
    ∧ ∀ a b c d : Byte, exec (.setClock guard [a, b, c, d]) s
      = .next ((s.setClocks { s.clocks with part := ((a.toNat * 256 + b.toNat) * 256 + c.toNat) * 256 + d.toNat }).answering
          0x05 .done [a, b, c, d])

/-- READ STATUS reports the 22 bytes of the status summary and changes nothing; a body that is not empty is
BAD_LENGTH (R152, 10.6). -/
def Obligations.ReadStatusReportsTheSummary : Prop :=
  ∀ (s : State) (guard : Byte), s.accepts guard →
    (∀ body : List Byte, body ≠ [] → exec (.readStatus guard body) s = .next (s.answering 0x02 .badLength []))
    ∧ exec (.readStatus guard []) s = .next (s.answering 0x02 .done
      ([byte s.cycle.state.code, flag s.cycle.ready, flag s.cycle.clean,
        byte (if s.cycle.state = .standby ∨ s.cycle.state = .ready then
          (if s.cycle.reasons.heatOff then 1 else 0) + (if s.cycle.reasons.estop then 2 else 0)
          + (if s.cycle.reasons.notSettled then 4 else 0) + (if s.cycle.reasons.noCharge then 8 else 0)
          + (if s.cycle.reasons.ringFull then 16 else 0) + (if s.cycle.reasons.serialSpent then 32 else 0)
          else 0),
        flag s.drive.master, flag s.inputs.eStop, byte s.scale.load.code, byte s.scale.capture.code]
      ++ be16 (max 0 (min 65000 s.scale.reference)).toNat ++ [byte s.queue.length, byte s.ring.records.length]
      ++ be32 (match s.ring.nextSerial with | none => 0 | some n => n) ++ be32 s.clocks.part
      ++ [byte s.notices.list.length, flag s.notices.lapsed]))

/-- READ NOTICES with an empty body reports the lapsed marker, how many notices it reports, and the oldest notices up to
eight, each in 15 bytes; they leave the queue, the marker is cleared, ATTN follows, and nothing else
changes (R156, R157). -/
def Obligations.ReadNoticesTakesTheOldestEight : Prop :=
  ∀ (s : State) (guard : Byte), s.accepts guard →
    (∀ body : List Byte, body ≠ [] → exec (.readNotices guard body) s = .next (s.answering 0x04 .badLength []))
    ∧ exec (.readNotices guard []) s = .next
      ((s.setNotices ⟨s.notices.list.drop 8, false, !(s.notices.list.drop 8).isEmpty⟩).answering 0x04 .done
        (flag s.notices.lapsed :: byte (min 8 s.notices.list.length)
          :: ((s.notices.list.take 8).map (fun n =>
            byte n.kind.code :: (be32 n.time ++ byte n.subject.code :: (be32 n.subject.number
              ++ flag n.value.isSome :: be32s (n.value.getD 0))))).flatten))

/-- The last byte of an answer has been sent (R150): nothing is owed any more, and nothing else
changes, for every command but RESTART. -/
def Obligations.AnswerSentClearsWhatIsOwed : Prop :=
  ∀ s : State, s.inputs.resetPin = false → s.port.answerOwed = true → s.port.restartTaken = false →
    exec .answerSent s = .next (s.setPort { s.port with answerOwed := false, answer := none })

/-- RESTART acts when its answer has been sent (R109, R154): every zone is OFF with its output off and its
integrator, request and grant 0; the permits and EJECT_FWD are off and the cycle's timers 0; the record of
a running cycle is CLOSED with the fault RESTART, the outcome ABORTED and its take-out time, in CURING with its
doses and duration (R122), in EJECTING with its strokes and retries (R136); the queue is empty, the scale
IDLE and disarmed with its lamps off, no tool is mounted; the notice queue holds RESTARTED alone. A recipe
staged in the running cycle is promoted, and every other slot is as it was (R1, R11). What RESTART keeps is
as it was (R19, R37, R55, R58, R77, R139, R149, R153). -/
def Obligations.RestartActsAfterItsAnswer : Prop :=
  ∀ s : State, s.inputs.resetPin = false → s.port.answerOwed = true → s.port.restartTaken = true → ∃ t,
    exec .answerSent s = .next t
    ∧ t.port = { s.port with answerOwed := false, answer := none, restartTaken := false }
    ∧ t.drive = { s.drive with master := false }
    ∧ (∀ z : ZoneIx, t.zones[z].state = .off ∧ t.zones[z].config = s.zones[z].config
      ∧ t.zones[z].temp = s.zones[z].temp ∧ t.zones[z].stale = s.zones[z].stale
      ∧ t.zones[z].implausible = s.zones[z].implausible
      ∧ t.zones[z].setpoint = s.zones[z].config.standby ∧ t.zones[z].band = 30 ∧ t.zones[z].settle = 0
      ∧ t.heaters[z].heldDuty = s.heaters[z].heldDuty
      ∧ (s.zones[z].state ≠ .off → t.heaters[z].output = false ∧ t.heaters[z].integrator = 0
        ∧ t.heaters[z].lastRequest = 0 ∧ t.heaters[z].lastGrant = 0))
    ∧ t.cycle = ⟨.noTool, none, ReadyReasons.none, false, false, false, false, false⟩
    ∧ t.timers = { s.timers with close := 0, opening := 0, stroke := 0, capture := 0, cure := 0 }
    ∧ t.ejector = Ejector.reset ∧ t.cure = Cure.reset ∧ t.queue = []
    ∧ t.scale = { s.scale with capture := .idle, arming := none, snapshot := none, measurement := none,
                               accept := false, reject := false }
    ∧ t.ring.nextSerial = s.ring.nextSerial
    ∧ (s.cycle.state.running = true → t.ring.records = s.ring.records.map (fun p =>
      if p.opened then { p with
        opened := false, faults := p.faults ||| 2048, verdict := false, outcome := .aborted
        takeoutTime := some s.clocks.part
        cureDuration := if s.cycle.state = .curing then s.cure.elapsed else p.cureDuration
        cavities := if s.cycle.state = .curing then writeDoses p.cavities s.cure.cavities else p.cavities
        strokes := if s.cycle.state = .ejecting then s.ejector.strokes else p.strokes
        retries := if s.cycle.state = .ejecting then s.ejector.retries else p.retries }
      else p))
    ∧ (s.cycle.state.running = false → t.ring = s.ring)
    ∧ t.notices = ⟨[⟨.restarted, s.clocks.part, .absent, none⟩], false, true⟩
    ∧ (∀ i : SlotIx, (s.cycle.state.running = false ∨ s.cycle.mounted ≠ some i → t.tools[i] = s.tools[i])
      ∧ (s.cycle.state.running = true → s.cycle.mounted = some i →
        t.tools[i] = (s.tools[i]).map (fun u => match u.staged with
          | none => u
          | some r => { u with active := some r, staged := none, revision := (u.revision + 1) % 65536 })))
    ∧ t.rates = s.rates ∧ t.clocks = s.clocks ∧ t.inputs = s.inputs ∧ t.pending = s.pending

/-- Power-on or the RESET pin (R156, and the tables of R1, R13, R19, R39, R59, R79, R93, R111, R127, R139,
R149, R153): with the pin released the part is in its reset state. With the pin still held it is so, but that
POWER_UP is not queued yet and ATTN is negated; and while the pin is held no other command and no ms does
anything, but that the other inputs take their levels. The levels of those inputs are the environment's, and
the row carries the level of the pin (the model's choice: log 2); the queue of commands and the count of
drawings are the model's own. -/
def Obligations.PowerOnRestoresTheResetState : Prop :=
  ∀ s : State,
    exec (.powerOnReset false) s = .next { State.reset with
      inputs := { s.inputs with resetPin := false }, pending := s.pending, draws := s.draws }
    ∧ exec (.powerOnReset true) s = .next { State.reset with
      inputs := { s.inputs with resetPin := true }, notices := ⟨[], false, false⟩, pending := s.pending, draws := s.draws }
    ∧ (s.inputs.resetPin = true →
      (∀ c : Instr, (∀ b : Bool, c ≠ .powerOnReset b) → ∃ i : Inputs,
        exec c s = .next (s.setInputs i) ∧ i.resetPin = true)
      ∧ (s.pending = [] → step s = .next s))

/-! ## Reading the part -/

/-- READ ZONE, LIST CHARGES, READ PART and READ OLDEST PART report what their rules name and change nothing
(R36, R57, R87, R145, 10.6): the zone record of 34 bytes; the queue count, the start position, how many
entries follow and the entries, at most eight; the record with a serial; the oldest record. A body of another
length is BAD_LENGTH; a zone outside 1 to 12 and a start position above 11 are BAD_VALUE. -/
def Obligations.ReadsReportAndChangeNothing : Prop :=
  ∀ (s : State) (guard : Byte), s.accepts guard →
    (∀ body : List Byte,
      (body.length ≠ 1 → exec (.readZone guard body) s = .next (s.answering 0x03 .badLength []))
      ∧ (2 ≤ body.length → exec (.listCharges guard body) s = .next (s.answering 0x39 .badLength []))
      ∧ (body.length ≠ 4 → exec (.readPart guard body) s = .next (s.answering 0x50 .badLength []))
      ∧ (body ≠ [] → exec (.readOldestPart guard body) s = .next (s.answering 0x51 .badLength [])))
    ∧ (∀ b : Byte,
      (b = 0 ∨ 12 < b.toNat → exec (.readZone guard [b]) s = .next (s.answering 0x03 .badValue []))
      ∧ (11 < b.toNat → exec (.listCharges guard [b]) s = .next (s.answering 0x39 .badValue [])))
    ∧ (∀ z : ZoneIx, exec (.readZone guard [byte z.number]) s = .next (s.answering 0x03 .done
      (setZoneBody z s.zones[z].config ++ be16s s.zones[z].setpoint ++ be16s s.zones[z].temp
        ++ [flag s.zones[z].stale, byte s.zones[z].state.code, flag s.zones[z].hot]
        ++ be16 (s.zones[z].settleTimer / 1000) ++ be16 s.heaters[z].lastRequest
        ++ be16 s.heaters[z].lastGrant ++ be16 s.heaters[z].heldDuty)))
    ∧ (∀ (body : List Byte) (start : Nat), start ≤ 11 → body = [byte start] ∨ (body = [] ∧ start = 0) →
      exec (.listCharges guard body) s = .next (s.answering 0x39 .done
        (byte s.queue.length :: byte start :: byte (min 8 (s.queue.length - start))
          :: (((s.queue.drop start).take 8).map (fun e =>
            be16 e.number ++ [byte e.cavity] ++ be16 e.mass ++ [byte (e.lot.getD []).length] ++ e.lot.getD []
            ++ List.replicate (12 - (e.lot.getD []).length) 0 ++ [byte (e.ply.getD 0)] ++ be32 e.captureTime
            ++ be32 (e.deadline - s.clocks.run))).flatten)))
    ∧ (∀ n : Nat, n < 4294967296 → s.ring.records.any (fun r => r.serial == n) = false →
      exec (.readPart guard (be32 n)) s = .next (s.answering 0x50 .notFound []))
    ∧ (∀ r ∈ s.ring.records, r.serial < 4294967296 →
      s.ring.records.Pairwise (fun a b => a.serial < b.serial) →
      exec (.readPart guard (be32 r.serial)) s = .next (s.answering 0x50 .done r.bytes))
    ∧ (s.ring.records = [] → exec (.readOldestPart guard []) s = .next (s.answering 0x51 .notFound []))
    ∧ (∀ r rest, s.ring.records = r :: rest →
      exec (.readOldestPart guard []) s = .next (s.answering 0x51 .done r.bytes))

/-- The part record as it is carried (10.6): 40 bytes and 26 for each cavity entry, the items in the order of
the layout, absent items as 0 and told apart by the presence byte. -/
def Obligations.PartRecordIsCarriedWhole : Prop :=
  ∀ r : PartRecord, (∀ c ∈ r.cavities, (c.lot.getD []).length ≤ 12) →
    r.bytes.length = 40 + 26 * r.cavities.length
    ∧ r.bytes.take 40 = be32 r.serial ++ [if r.opened then 0 else 1] ++ be16 r.toolNumber
      ++ [byte (r.slot.val + 1)] ++ be16 r.revision ++ be32 r.startTime
      ++ [byte ((if r.closeTime.isSome then 1 else 0) + (if r.releaseTime.isSome then 2 else 0)
        + (if r.takeoutTime.isSome then 4 else 0) + (if r.tg.isSome then 8 else 0))]
      ++ be32 (r.closeTime.getD 0) ++ be32 (r.releaseTime.getD 0) ++ be32 (r.takeoutTime.getD 0)
      ++ be16 r.cureDuration ++ be16s (r.tg.getD (0, 0)).1 ++ be16s (r.tg.getD (0, 0)).2
      ++ [byte r.strokes, byte r.retries, byte r.outcome.code] ++ be16 r.faults.toNat
      ++ [flag r.verdict, byte r.cavities.length]
    ∧ ∀ (k : Nat) (c : RecordCavity), r.cavities[k]? = some c →
      (r.bytes.drop (40 + 26 * k)).take 26 = be16 c.charge ++ be16 c.mass ++ [byte (c.lot.getD []).length]
        ++ c.lot.getD [] ++ List.replicate (12 - (c.lot.getD []).length) 0 ++ [byte (c.ply.getD 0)]
        ++ be32 c.required ++ be32 c.achieved

/-! ## The tool table (chapter 1) -/

/-- DEFINE TOOL with a sound definition (R3, R4): written into the slot that holds the number, which keeps its
revision and loses both recipes, or into the lowest empty slot; refused IN_USE for the mounted tool
and TABLE_FULL with no slot for it. A body with number 0, a count outside 1 to 4, a zone above 12, an empty set of a
cavity, a set of a cavity that is not there, or a support zone in a cavity's set is BAD_VALUE. CLEAR TOOL empties the slot of an unmounted tool, refuses the mounted one IN_USE
and a number no slot holds UNKNOWN_TOOL (R5). A body of the wrong length is BAD_LENGTH. Nothing else changes. -/
def Obligations.ToolSlotsAreWrittenAndCleared : Prop :=
  ∀ (s : State) (guard : Byte), s.accepts guard → ToolInv s →
    (∀ body : List Byte,
      (body.length ≠ 13 → exec (.defineTool guard body) s = .next (s.answering 0x10 .badLength []))
      ∧ (body.length ≠ 2 → exec (.clearTool guard body) s = .next (s.answering 0x11 .badLength [])))
    ∧ (∀ (number count support : Nat) (sets : Vector Nat 4), number < 65536 → count < 256 → support < 65536 →
      (∀ k : Fin 4, sets[k] < 65536) →
      (number = 0 ∨ count = 0 ∨ 4 < count ∨ 4096 ≤ support ∨ ∃ k : Fin 4, 4096 ≤ sets[k]
        ∨ (k.val < count ∧ sets[k] = 0) ∨ (count ≤ k.val ∧ sets[k] ≠ 0) ∨ support &&& sets[k] ≠ 0) →
      exec (.defineTool guard (be16 number ++ byte count :: (be16 sets[0] ++ be16 sets[1] ++ be16 sets[2]
        ++ be16 sets[3] ++ be16 support))) s = .next (s.answering 0x10 .badValue []))
    ∧ (∀ t : Tool, ToolSound t → t.active = none → t.staged = none → t.revision = 0 →
      (∀ (i : SlotIx) (old : Tool), s.tools[i] = some old → old.number = t.number →
        (s.cycle.mounted ≠ some i → exec (.defineTool guard (defineToolBody t)) s
          = .next ((s.setTools (s.tools.set i (some { t with revision := old.revision }))).answering 0x10 .done
              [byte (i.val + 1), 1]))
        ∧ (s.cycle.mounted = some i → exec (.defineTool guard (defineToolBody t)) s
          = .next (s.answering 0x10 .inUse [])))
      ∧ ((∀ (i : SlotIx) (old : Tool), s.tools[i] = some old → old.number ≠ t.number) →
        (∀ i : SlotIx, s.tools[i] = none → (∀ j : SlotIx, j < i → s.tools[j] ≠ none) →
          exec (.defineTool guard (defineToolBody t)) s
            = .next ((s.setTools (s.tools.set i (some t))).answering 0x10 .done [byte (i.val + 1), 0]))
        ∧ ((∀ i : SlotIx, s.tools[i] ≠ none) →
          exec (.defineTool guard (defineToolBody t)) s = .next (s.answering 0x10 .tableFull []))))
    ∧ ∀ n : Nat, n < 65536 →
      (∀ (i : SlotIx) (t : Tool), s.tools[i] = some t → t.number = n →
        (s.cycle.mounted ≠ some i → exec (.clearTool guard (be16 n)) s
          = .next ((s.setTools (s.tools.set i none)).answering 0x11 .done []))
        ∧ (s.cycle.mounted = some i → exec (.clearTool guard (be16 n)) s = .next (s.answering 0x11 .inUse [])))
      ∧ ((∀ (i : SlotIx) (t : Tool), s.tools[i] = some t → t.number ≠ n) →
        exec (.clearTool guard (be16 n)) s = .next (s.answering 0x11 .unknownTool []))

/-- LOAD RATES replaces the whole table, unless a cure that runs takes its rates from it (R14, R15); a body of the
wrong length, an index above 3, a temperature outside −500 to 4000 and temperatures that do not rise strictly are
refused. Nothing else changes. -/
def Obligations.LoadRatesReplacesTheTable : Prop :=
  ∀ (s : State) (guard : Byte), s.accepts guard →
    (∀ body : List Byte, body.length ≠ 65 → exec (.loadRates guard body) s = .next (s.answering 0x13 .badLength []))
    ∧ (∀ (index : Byte) (points : List Byte), points.length = 64 → 3 < index.toNat →
      exec (.loadRates guard (index :: points)) s = .next (s.answering 0x13 .badValue []))
    ∧ ∀ (k : Fin 4) (t : RateTable), (∀ j : Fin 16, -32768 ≤ t[j].temp ∧ t[j].temp ≤ 32767 ∧ t[j].rate ≤ 65535) →
    ((∀ i j : Fin 16, i < j → t[i].temp < t[j].temp) → -500 ≤ t[0].temp → t[15].temp ≤ 4000 →
      ((s.cycle.state = .curing ∧ ∃ r, s.activeRecipe = some r ∧ r.rateTable = k) →
        exec (.loadRates guard (loadRatesBody k t)) s = .next (s.answering 0x13 .inUse []))
      ∧ (¬(s.cycle.state = .curing ∧ ∃ r, s.activeRecipe = some r ∧ r.rateTable = k) →
        exec (.loadRates guard (loadRatesBody k t)) s
          = .next ((s.setRates (s.rates.set k t)).answering 0x13 .done [])))
    ∧ ((∃ i j : Fin 16, i < j ∧ t[j].temp ≤ t[i].temp) ∨ (∃ j : Fin 16, t[j].temp < -500 ∨ 4000 < t[j].temp) →
      exec (.loadRates guard (loadRatesBody k t)) s = .next (s.answering 0x13 .badValue []))

/-- STAGE RECIPE with a recipe that fits its tool (R7 to R10): stored with its setpoints clamped, answered
DONE_CLAMPED if one was. For a tool not mounted it is promoted at once, with the next revision and a
RECIPE_PROMOTED notice; for the mounted tool of a running cycle it waits, replacing one that waited.
Nothing else changes. It is refused, and changes nothing, BAD_LENGTH with a body that disagrees with its two counts,
UNKNOWN_TOOL for a number no slot holds, and BAD_VALUE for a recipe that does not fit the tool, a rate table above 3
and a zone outside 1 to 12 (R6 to R8). A setpoint is read as signed (the model's choice: log 15). -/
def Obligations.StageRecipePromotesOrWaits : Prop :=
  ∀ (s : State) (guard : Byte), s.accepts guard → ToolInv s →
    (∀ body : List Byte,
      ¬(22 ≤ body.length ∧ body.length = 22 + 5 * (body.getD 20 0).toNat + 6 * (body.getD 21 0).toNat) →
      exec (.stageRecipe guard body) s = .next (s.answering 0x12 .badLength []))
    ∧ (∀ (n : Nat) (r : Recipe), n < 65536 → r.Carried →
      (∀ (i : SlotIx) (t : Tool), s.tools[i] = some t → t.number ≠ n) →
      exec (.stageRecipe guard (stageRecipeBody n r)) s = .next (s.answering 0x12 .unknownTool []))
    ∧ ∀ (i : SlotIx) (t : Tool) (r : Recipe), s.tools[i] = some t →
      (r.Carried →
        (¬r.Fits t →
          exec (.stageRecipe guard (stageRecipeBody t.number r)) s = .next (s.answering 0x12 .badValue []))
        ∧ (∀ b : Byte, 3 < b.toNat →
          exec (.stageRecipe guard ((stageRecipeBody t.number r).set 4 b)) s = .next (s.answering 0x12 .badValue []))
        ∧ (∀ (b : Byte) (k : Nat), k < r.zones.length → b = 0 ∨ 12 < b.toNat →
          exec (.stageRecipe guard ((stageRecipeBody t.number r).set (22 + 5 * k) b)) s
            = .next (s.answering 0x12 .badValue [])))
      ∧ (r.Fits t →
        (s.cycle.mounted ≠ some i →
          exec (.stageRecipe guard (stageRecipeBody t.number r)) s
            = .next (((s.setTools (s.tools.set i (some { t with
                active := some (r.clamped s.zones), staged := none, revision := (t.revision + 1) % 65536 }))).post
                .recipePromoted .absent (some t.number)).answering 0x12
                (if r.clamped s.zones = r then .done else .doneClamped)
                (byte (i.val + 1) :: 0 :: be16 ((t.revision + 1) % 65536))))
        ∧ (s.cycle.mounted = some i → s.cycle.state.running = true →
          exec (.stageRecipe guard (stageRecipeBody t.number r)) s
            = .next ((s.setTools (s.tools.set i (some { t with staged := some (r.clamped s.zones) }))).answering 0x12
                (if r.clamped s.zones = r then .done else .doneClamped)
                (byte (i.val + 1) :: 1 :: be16 t.revision))))

/-- STAGE RECIPE for the mounted tool in STANDBY or READY (R9, R10, R12): promoted at once, with a RECIPE_PROMOTED
notice if a place is free (before any notice of a zone, the model's choice: log 17). Each used zone takes its new
figures. With a changed setpoint or band a SETTLING or SETTLED zone is SETTLING or SETTLED in band and RAMP out of it,
its settle timer 0, RAMP and FAULT stay, and a setpoint of 0 gives OFF; an OFF zone whose setpoint was 0 leaves OFF with
the master on and E_STOP negated; outside OFF, HOT is judged at once against the new setpoint (R23, R27, R34). A changed
settle time alone lets a SETTLING zone whose timer has reached it become SETTLED (R23). A zone the tool does not use
stands as it did at its standby figures. The ready reasons are evaluated; the queue, the arming record and a waiting
capture are as they were. -/
def Obligations.StageRecipeReachesTheMountedTool : Prop :=
  ∀ (s : State) (guard : Byte) (i : SlotIx) (t : Tool) (r : Recipe), s.accepts guard → ToolInv s →
    s.tools[i] = some t → r.Fits t → s.cycle.mounted = some i → s.cycle.state.waits = true → ∃ u,
      exec (.stageRecipe guard (stageRecipeBody t.number r)) s = .next u
      ∧ u.tools = s.tools.set i (some { t with active := some (r.clamped s.zones), staged := none,
                                               revision := (t.revision + 1) % 65536 })
      ∧ (s.notices.list.length < 16 →
        s.notices.list ++ [⟨.recipePromoted, s.clocks.part, .absent, some (t.number : Int)⟩] <+: u.notices.list)
      ∧ (∀ e ∈ (r.clamped s.zones).zones,
        let old := s.zones[e.zone]
        let new := u.zones[e.zone]
        let changed := new.setpoint ≠ old.setpoint ∨ new.band ≠ old.band
        new.setpoint = e.setpoint ∧ new.band = e.band ∧ new.settle = r.settleTime
        ∧ new.config = old.config ∧ new.temp = old.temp ∧ new.sampled = old.sampled ∧ new.implausible = old.implausible
        ∧ (old.setpoint ≠ 0 → old.state ≠ .off → new.setpoint = 0 →
          new.state = .off ∧ u.heaters[e.zone].output = false)
        ∧ (new.setpoint ≠ 0 → changed →
          (old.state = .settling ∨ old.state = .settled → new.settleTimer = 0
            ∧ new.state = (if |new.setpoint - old.temp| ≤ new.band
              then (if new.settle = 0 then .settled else .settling) else .ramp))
          ∧ (old.state = .ramp ∨ old.state = .fault →
            new.state = old.state ∧ new.settleTimer = old.settleTimer))
        ∧ (old.state = .off → new.state =
          if old.setpoint = 0 ∧ new.setpoint ≠ 0 ∧ s.drive.master = true ∧ s.inputs.eStop = false
          then (if old.implausible = 2 then .fault else .ramp) else .off)
        ∧ (changed → new.state ≠ .off → new.hot =
          if new.stale then old.hot else decide (new.setpoint + old.config.hotMargin < old.temp))
        ∧ (old.hot = false → new.hot = true → u.heaters[e.zone].output = false ∧ u.heaters[e.zone].lastGrant = 0)
        ∧ (new.setpoint ≠ 0 → old.state ≠ .off → ¬(old.hot = false ∧ new.hot = true) →
          u.heaters[e.zone] = s.heaters[e.zone])
        ∧ (¬changed → new.hot = old.hot ∧ new.settleTimer = old.settleTimer
          ∧ new.state = (if old.state = .settling ∧ new.settle * 1000 ≤ old.settleTimer then .settled else old.state)))
      ∧ (∀ z : ZoneIx, s.usesZone z = false → s.zones[z].setpoint = s.zones[z].config.standby → s.zones[z].band = 30 →
        s.zones[z].settle = 0 → s.zones[z].state ≠ .settling → u.zones[z] = s.zones[z] ∧ u.heaters[z] = s.heaters[z])
      ∧ Reevaluated s u
      ∧ u.queue = s.queue ∧ u.scale = s.scale ∧ u.ring = s.ring ∧ u.drive = s.drive ∧ u.rates = s.rates
      ∧ u.cure = s.cure ∧ u.ejector = s.ejector ∧ u.clocks = s.clocks ∧ u.inputs = s.inputs
      ∧ u.timers = s.timers ∧ u.pending = s.pending
      ∧ u.port.answer = some ⟨0x12, if r.clamped s.zones = r then .done else .doneClamped,
          byte (i.val + 1) :: 0 :: be16 ((t.revision + 1) % 65536)⟩

/-- MOUNT (R16, R17) is refused with a body of the wrong length, in a running state, for a number no slot holds and
for a tool without an active recipe, in this order, and then changes nothing but the answer. Else a former
tool is unmounted: a queue that held entries is dropped with a CHARGES_DROPPED notice of their number, a WAITING
capture is cancelled, any other goes on. The tool's slot is mounted, the queue is empty and the scale
disarmed, each used zone has its recipe's figures and every other its standby figures, and the cycle is in STANDBY
with NO_CHARGE among the reasons. -/
def Obligations.MountSetsThePressUp : Prop :=
  ∀ (s : State) (guard : Byte) (n : Nat), s.accepts guard → ToolInv s → QueueInv s → n < 65536 →
    (∀ body : List Byte, body.length ≠ 2 → exec (.mount guard body) s = .next (s.answering 0x14 .badLength []))
    ∧ (s.cycle.state.running = true → exec (.mount guard (be16 n)) s = .next (s.answering 0x14 .wrongState []))
    ∧ (s.cycle.state.running = false → (∀ (i : SlotIx) (t : Tool), s.tools[i] = some t → t.number ≠ n) →
      exec (.mount guard (be16 n)) s = .next (s.answering 0x14 .unknownTool []))
    ∧ ∀ (i : SlotIx) (t : Tool), s.cycle.state.running = false → s.tools[i] = some t → t.number = n →
      (t.active = none → exec (.mount guard (be16 n)) s = .next (s.answering 0x14 .noRecipe []))
      ∧ ∀ r : Recipe, t.active = some r → ∃ u, exec (.mount guard (be16 n)) s = .next u
      ∧ u.cycle.mounted = some i ∧ u.cycle.state = .standby ∧ u.cycle.ready = false
      ∧ u.cycle.reasons = u.conditions ∧ u.cycle.reasons.noCharge = true ∧ u.cycle.clean = s.cycle.clean
      ∧ u.queue = [] ∧ u.scale.arming = none
      ∧ (s.cycle.mounted ≠ none → s.scale.capture = .waiting →
        u.scale = { s.scale with arming := none, capture := .idle, snapshot := none }
        ∧ u.timers = { s.timers with capture := 0 })
      ∧ (s.scale.capture ≠ .waiting → u.scale = { s.scale with arming := none } ∧ u.timers = s.timers)
      ∧ (s.queue ≠ [] → s.notices.list.length < 16 →
        s.notices.list ++ [⟨.chargesDropped, s.clocks.part, .absent, some s.queue.length⟩] <+: u.notices.list)
      ∧ (∀ z : ZoneIx, ZoneSet.has t.used z = false → u.zones[z].setpoint = s.zones[z].config.standby
        ∧ u.zones[z].band = 30 ∧ u.zones[z].settle = 0)
      ∧ (∀ (z : ZoneIx) (e : ZoneEntry), ZoneSet.has t.used z = true → r.entryFor z = some e →
        u.zones[z].setpoint = min e.setpoint s.zones[z].config.setpointMax
        ∧ u.zones[z].band = e.band ∧ u.zones[z].settle = r.settleTime)
      ∧ u.tools = s.tools ∧ u.rates = s.rates ∧ u.drive = s.drive ∧ u.cure = s.cure ∧ u.ejector = s.ejector
      ∧ u.ring = s.ring ∧ u.clocks = s.clocks ∧ u.inputs = s.inputs ∧ u.pending = s.pending
      ∧ u.port.answer = some ⟨0x14, .done, byte (i.val + 1) :: (be16 t.revision ++ [byte t.cavityCount])⟩

/-- UNMOUNT in STANDBY or READY (R18, R71, R88): the queue is emptied, with one CHARGES_DROPPED notice if it
held entries and a place is free (posted before the zones' notices, the model's choice: log 17); the arming record is cleared and a waiting capture cancelled; every
zone has its standby figures; no tool is mounted and the cycle is in NO_TOOL. Elsewhere it is refused WRONG_STATE,
and with a body that is not empty BAD_LENGTH. -/
def Obligations.UnmountEmptiesTheStation : Prop :=
  ∀ (s : State) (guard : Byte), s.accepts guard →
    (∀ body : List Byte, body ≠ [] → exec (.unmount guard body) s = .next (s.answering 0x15 .badLength []))
    ∧ (s.cycle.state.waits = false → exec (.unmount guard []) s = .next (s.answering 0x15 .wrongState []))
    ∧ (s.cycle.state.waits = true → ∃ u, exec (.unmount guard []) s = .next u
      ∧ u.cycle.mounted = none ∧ u.cycle.state = .noTool ∧ u.cycle.ready = false
      ∧ u.cycle.reasons = ReadyReasons.none ∧ u.cycle.clean = s.cycle.clean
      ∧ u.queue = [] ∧ u.scale.arming = none
      ∧ (s.scale.capture = .waiting → u.scale.capture = .idle ∧ u.scale.snapshot = none ∧ u.timers.capture = 0)
      ∧ (s.scale.capture ≠ .waiting → u.scale = { s.scale with arming := none } ∧ u.timers = s.timers)
      ∧ (s.queue ≠ [] → s.notices.list.length < 16 →
        ⟨.chargesDropped, s.clocks.part, .absent, some s.queue.length⟩ ∈ u.notices.list)
      ∧ (∀ z : ZoneIx, u.zones[z].setpoint = s.zones[z].config.standby ∧ u.zones[z].band = 30
        ∧ u.zones[z].settle = 0)
      ∧ u.tools = s.tools ∧ u.rates = s.rates ∧ u.drive = s.drive ∧ u.cure = s.cure ∧ u.ejector = s.ejector
      ∧ u.ring = s.ring ∧ u.clocks = s.clocks ∧ u.inputs = s.inputs ∧ u.pending = s.pending
      ∧ u.port.answer = some ⟨0x15, .done, []⟩)

/-! ## Zones (chapter 2) -/

/-- SET ZONE with a configuration in its ranges (R20 to R23, R34): the zone's ten items are written at once; a used
zone's working setpoint is its recipe's, at most the new maximum, and any other's the new standby setpoint. With a
changed setpoint or band a SETTLING or SETTLED zone is SETTLING or SETTLED in band and RAMP out of it, its settle timer
0, RAMP and FAULT stay, and a setpoint of 0 gives OFF; an OFF zone whose setpoint was 0 leaves OFF with the
master on and E_STOP negated. HOT is judged at once against the new setpoint and margin. The temperature, the
implausible run, the plausible run of a zone that keeps its state, and every other zone and heater are as they
were. A body of another length is BAD_LENGTH; a zone outside 1 to 12, an item out of its range, a low limit not below the
high limit and a standby setpoint above the maximum are BAD_VALUE, and change nothing (R20). -/
def Obligations.SetZoneConfiguresOneZone : Prop :=
  ∀ (s : State) (guard : Byte), s.accepts guard →
    (∀ body : List Byte, body.length ≠ 19 → exec (.setZone guard body) s = .next (s.answering 0x20 .badLength []))
    ∧ (∀ (b : Byte) (items : List Byte), items.length = 18 → b = 0 ∨ 12 < b.toNat →
      exec (.setZone guard (b :: items)) s = .next (s.answering 0x20 .badValue []))
    ∧ ∀ (z : ZoneIx) (c : ZoneConfig),
      (c.Carried → ¬c.Fits → exec (.setZone guard (setZoneBody z c)) s = .next (s.answering 0x20 .badValue []))
      ∧ (c.Fits → ∃ t, exec (.setZone guard (setZoneBody z c)) s = .next t
        ∧ t.zones[z].config = c ∧ t.zones[z].temp = s.zones[z].temp ∧ t.zones[z].sampled = s.zones[z].sampled
        ∧ t.zones[z].implausible = s.zones[z].implausible
        ∧ (t.zones[z].state = s.zones[z].state → t.zones[z].plausible = s.zones[z].plausible)
        ∧ (s.usesZone z = false → t.zones[z].setpoint = c.standby ∧ t.zones[z].band = 30 ∧ t.zones[z].settle = 0)
        ∧ (∀ (r : Recipe) (e : ZoneEntry), s.usesZone z = true → s.activeRecipe = some r → r.entryFor z = some e →
          t.zones[z].setpoint = min e.setpoint c.setpointMax ∧ t.zones[z].band = e.band
          ∧ t.zones[z].settle = r.settleTime)
        ∧ (s.zones[z].setpoint ≠ 0 → s.zones[z].state ≠ .off → t.zones[z].setpoint = 0 →
          t.zones[z].state = .off ∧ t.heaters[z].output = false)
        ∧ (t.zones[z].setpoint ≠ 0 →
          t.zones[z].setpoint ≠ s.zones[z].setpoint ∨ t.zones[z].band ≠ s.zones[z].band →
          (s.zones[z].state = .settling ∨ s.zones[z].state = .settled →
            t.zones[z].settleTimer = 0
            ∧ t.zones[z].state = (if |t.zones[z].setpoint - s.zones[z].temp| ≤ t.zones[z].band
              then (if t.zones[z].settle = 0 then .settled else .settling) else .ramp))
          ∧ (s.zones[z].state = .ramp ∨ s.zones[z].state = .fault →
            t.zones[z].state = s.zones[z].state ∧ t.zones[z].settleTimer = s.zones[z].settleTimer))
        ∧ (t.zones[z].setpoint = s.zones[z].setpoint → t.zones[z].band = s.zones[z].band →
          t.zones[z].settle = s.zones[z].settle → s.zones[z].state ≠ .settling →
          t.zones[z].state = s.zones[z].state ∧ t.zones[z].settleTimer = s.zones[z].settleTimer)
        ∧ (s.zones[z].state = .off → t.zones[z].state =
          if s.zones[z].setpoint = 0 ∧ t.zones[z].setpoint ≠ 0 ∧ s.drive.master = true ∧ s.inputs.eStop = false
          then (if s.zones[z].implausible = 2 then .fault else .ramp) else .off)
        ∧ (t.zones[z].state ≠ .off → t.zones[z].hot =
          if t.zones[z].stale then s.zones[z].hot
          else decide (t.zones[z].setpoint + c.hotMargin < s.zones[z].temp))
        ∧ (s.zones[z].hot = false → t.zones[z].hot = true →
          t.heaters[z].output = false ∧ t.heaters[z].lastGrant = 0
          ∧ (s.notices.list.length < 16 →
            t.notices.list = s.notices.list ++ [⟨.zoneHot, s.clocks.part, .zone (z.val + 1), some s.zones[z].temp⟩]))
        ∧ (∀ y : ZoneIx, y ≠ z → t.zones[y] = s.zones[y] ∧ t.heaters[y] = s.heaters[y])
        ∧ t.tools = s.tools ∧ t.rates = s.rates ∧ t.drive = s.drive ∧ t.scale = s.scale ∧ t.queue = s.queue
        ∧ t.cure = s.cure ∧ t.ejector = s.ejector ∧ t.ring = s.ring ∧ t.clocks = s.clocks ∧ t.inputs = s.inputs
        ∧ t.timers = s.timers ∧ t.pending = s.pending ∧ t.port.answer = some ⟨0x20, .done, []⟩)

/-- ZONE SAMPLE, a plausible sample outside FAULT (R24, R25, R28 to R30, R34, R43): it becomes the temperature; RAMP
enters SETTLING in band, or SETTLED with a settle time of 0; SETTLING counts 250 ms to SETTLED or falls out
to RAMP; SETTLED falls out to RAMP; OFF stays OFF; HOT is judged against it, and when it rises the zone's
output goes off, its last grant becomes 0, its last request is kept (R43), and ZONE_HOT is posted. The sample that takes SETTLING
to SETTLED is the SETTLE TIME REACHED. A used zone's arrival at SETTLED or departure from it is evaluated
between cycles (R33, R95). Every other zone is as it was. -/
def Obligations.PlausibleSampleJudgesTheZone : Prop :=
  ∀ (s : State) (z : ZoneIx) (x : Int), s.inputs.resetPin = false → -500 ≤ x → x ≤ 4000 →
    s.zones[z].state ≠ .fault →
    s.zones[z].config.lowLimit ≤ x → x ≤ s.zones[z].config.highLimit → ∃ t,
    exec (.zoneSample z (.celsius x)) s = .next t
    ∧ t.zones[z].temp = x ∧ t.zones[z].stale = false ∧ t.zones[z].implausible = 0 ∧ t.zones[z].plausible = 0
    ∧ t.zones[z].config = s.zones[z].config ∧ t.zones[z].setpoint = s.zones[z].setpoint
    ∧ t.zones[z].band = s.zones[z].band ∧ t.zones[z].settle = s.zones[z].settle
    ∧ (t.zones[z].state, t.zones[z].settleTimer) =
      (let away := |s.zones[z].setpoint - x|
       let out := s.zones[z].band + s.zones[z].config.exitHysteresis < away
       match s.zones[z].state with
       | .off => (.off, s.zones[z].settleTimer)
       | .ramp => if away ≤ s.zones[z].band then (if s.zones[z].settle = 0 then (.settled, 0) else (.settling, 0))
         else (.ramp, s.zones[z].settleTimer)
       | .settling => if out then (.ramp, 0)
         else (if s.zones[z].settle * 1000 ≤ s.zones[z].settleTimer + 250 then .settled else .settling,
           s.zones[z].settleTimer + 250)
       | .settled => if out then (.ramp, 0) else (.settled, s.zones[z].settleTimer)
       | .fault => (.fault, 0))
    ∧ (s.zones[z].state ≠ .off →
      (t.zones[z].hot = true ↔ s.zones[z].setpoint + s.zones[z].config.hotMargin < x))
    ∧ (s.zones[z].state = .off → t.zones[z].hot = s.zones[z].hot)
    ∧ (s.zones[z].state = .settling → t.zones[z].state = .settled →
      exec (.settleTimeReached z (.celsius x)) s = .next t)
    ∧ (if s.usesZone z = true ∧ s.cycle.state.waits = true ∧ (s.zones[z].state = .settled ↔ t.zones[z].state ≠ .settled)
        then Reevaluated s t
        else t.cycle = s.cycle)
    ∧ (s.zones[z].hot = false ∧ t.zones[z].hot = true →
      t.heaters[z] = { s.heaters[z] with output := false, lastGrant := 0 }
      ∧ (s.notices.list.length < 16 →
        t.notices.list = s.notices.list ++ [⟨.zoneHot, s.clocks.part, .zone (z.val + 1), some x⟩]))
    ∧ (¬(s.zones[z].hot = false ∧ t.zones[z].hot = true) → t.heaters[z] = s.heaters[z] ∧ t.notices = s.notices)
    ∧ (∀ y : ZoneIx, y ≠ z → t.zones[y] = s.zones[y] ∧ t.heaters[y] = s.heaters[y])
    ∧ t.timers.zone[z] = 0 ∧ t.drive = s.drive ∧ t.scale = s.scale ∧ t.queue = s.queue ∧ t.ring = s.ring
    ∧ t.cure = s.cure ∧ t.ejector = s.ejector ∧ t.tools = s.tools ∧ t.rates = s.rates ∧ t.port = s.port
    ∧ t.clocks = s.clocks ∧ t.inputs = s.inputs ∧ t.pending = s.pending

/-- An implausible sample, open circuit or outside the limits (R24, R25, R28 to R31): it never becomes the temperature and
changes no state, unless it is the second in a row in RAMP, SETTLING or SETTLED. That one is the ZONE FAULT
ENTRY: FAULT, the timers 0, HOT kept, the held duty latched from the last grant (R45), and ZONE_FAULT
posted with the kept temperature, absent if there is none. In FAULT it breaks the plausible run and ages
the fault. That FAULT clears the mark RESTART kept is the model's reading (log 9). -/
def Obligations.ImplausibleSamplesLeadToFault : Prop :=
  ∀ (s : State) (z : ZoneIx) (reading : Reading), s.inputs.resetPin = false →
    (reading = .openCircuit ∨ ∃ x, reading = .celsius x ∧ -500 ≤ x ∧ x ≤ 4000
      ∧ (x < s.zones[z].config.lowLimit ∨ s.zones[z].config.highLimit < x)) →
    (s.zones[z].state = .off ∨ s.zones[z].state ≠ .fault ∧ s.zones[z].implausible = 0 → ∃ t,
      exec (.zoneSample z reading) s = .next t
      ∧ t.zones = s.zones.set z { s.zones[z] with implausible := min 2 (s.zones[z].implausible + 1), plausible := 0 }
      ∧ t.heaters = s.heaters ∧ t.notices = s.notices ∧ t.cycle = s.cycle)
    ∧ (s.zones[z].state = .ramp ∨ s.zones[z].state = .settling ∨ s.zones[z].state = .settled →
      s.zones[z].implausible = 1 → ∃ t,
      exec (.zoneFaultEntry z reading) s = .next t ∧ exec (.zoneSample z reading) s = .next t
      ∧ t.zones = s.zones.set z { s.zones[z] with state := .fault, implausible := 2, settleTimer := 0,
                                                  plausible := 0, faultAge := 0, staleKept := false }
      ∧ t.heaters = s.heaters.set z { s.heaters[z] with heldDuty := s.heaters[z].lastGrant }
      ∧ (s.notices.list.length < 16 → t.notices.list = s.notices.list
        ++ [⟨.zoneFault, s.clocks.part, .zone (z.val + 1),
            if s.zones[z].sampled then some s.zones[z].temp else none⟩]))
    ∧ (s.zones[z].state = .fault → ∃ t, exec (.zoneSample z reading) s = .next t
      ∧ t.zones = s.zones.set z { s.zones[z] with implausible := min 2 (s.zones[z].implausible + 1), plausible := 0,
                                                  faultAge := min 600000 (s.zones[z].faultAge + 250) }
      ∧ t.heaters = s.heaters ∧ t.notices = s.notices ∧ t.cycle = s.cycle)

/-- FAULT (R24, R25, R32, R46): each sample ages the fault by 250 ms up to 600000; a plausible one counts, and leaves the
temperature, until the eighth in a row. That one is the ZONE RECOVERY: it becomes the temperature, the zone enters RAMP
with its counters 0, the integrator is cleared, and ZONE_RECOVERED is posted with it. That the temperature
clears the mark RESTART kept is the model's reading (log 9). -/
def Obligations.EightPlausibleSamplesRecover : Prop :=
  ∀ (s : State) (z : ZoneIx) (x : Int), s.inputs.resetPin = false → -500 ≤ x → x ≤ 4000 →
    s.zones[z].state = .fault →
    s.zones[z].config.lowLimit ≤ x → x ≤ s.zones[z].config.highLimit →
    (s.zones[z].plausible < 7 → ∃ t, exec (.zoneSample z (.celsius x)) s = .next t
      ∧ t.zones = s.zones.set z { s.zones[z] with implausible := 0, plausible := s.zones[z].plausible + 1,
                                                  faultAge := min 600000 (s.zones[z].faultAge + 250) }
      ∧ t.heaters = s.heaters ∧ t.notices = s.notices ∧ t.cycle = s.cycle)
    ∧ (s.zones[z].plausible = 7 → ∃ t, exec (.zoneRecovery z (.celsius x)) s = .next t
      ∧ exec (.zoneSample z (.celsius x)) s = .next t
      ∧ t.zones = s.zones.set z { s.zones[z] with
          state := .ramp, temp := x, sampled := true, staleKept := false, implausible := 0, plausible := 0, faultAge := 0,
          settleTimer := 0, hot := decide (s.zones[z].setpoint + s.zones[z].config.hotMargin < x) }
      ∧ t.heaters[z].integrator = 0 ∧ t.heaters[z].heldDuty = s.heaters[z].heldDuty
      ∧ t.heaters[z].lastRequest = s.heaters[z].lastRequest
      ∧ (s.notices.list.length < 15 →
        ⟨.zoneRecovered, s.clocks.part, .zone (z.val + 1), some x⟩ ∈ t.notices.list)
      ∧ (∀ y : ZoneIx, y ≠ z → t.heaters[y] = s.heaters[y]))

/-! ## Heaters (chapter 3) -/

/-- WINDOW START (R40 to R42, R44, R47 to R49, R51): the setting becomes the length in force and the window
elapsed time 0; each zone's request is by the first row of R44 that matches, its grant by R51, its output
on for floor(L × grant / 1000) ms. Zones, budget and all other blocks are as they were. -/
def Obligations.WindowStartGrantsEveryZone : Prop :=
  ∀ s : State, s.inputs.resetPin = false → ∃ t, exec .windowStart s = .next t
    ∧ t.drive = { s.drive with windowLength := s.drive.windowSetting } ∧ t.timers.window = 0
    ∧ (∀ z : ZoneIx,
      let zone := s.zones[z]
      let h := s.heaters[z]
      let e := max (-2000) (min 2000 (zone.setpoint - zone.temp))
      let moved := if (0 < e ∧ h.lastGrant ≠ 1000 ∧ h.lastRequest ≤ h.lastGrant) ∨ (e < 0 ∧ h.lastGrant ≠ 0)
        then max 0 (min 64000 (h.integrator + zone.config.ki * e)) else h.integrator
      let law := (zone.state = .ramp ∨ zone.state = .settling ∨ zone.state = .settled)
        ∧ zone.hot = false ∧ zone.stale = false
      t.heaters[z].integrator = (if law then moved else h.integrator)
      ∧ (law → t.heaters[z].lastRequest
        = (max 0 (min 1000 ((zone.config.kp * e).tdiv 16 + (moved / 64)))).toNat)
      ∧ (zone.state = .fault → zone.hot = false → t.heaters[z].lastRequest
        = if zone.faultAge < zone.config.faultHold * 1000 then h.heldDuty else 0)
      ∧ (¬law → (zone.state ≠ .fault ∨ zone.hot = true) → t.heaters[z].lastRequest = 0)
      ∧ t.heaters[z].heldDuty = h.heldDuty
      ∧ t.heaters[z].onTime = s.drive.windowSetting * t.heaters[z].lastGrant / 1000
      ∧ (t.heaters[z].output = true ↔ 0 < t.heaters[z].onTime)
      ∧ (let demand := (allZones.map (fun y => t.heaters[y].lastRequest * s.zones[y].config.ratedPower)).sum
         t.heaters[z].lastGrant = if s.drive.budget = 0 ∨ demand ≤ s.drive.budget * 1000
           then t.heaters[z].lastRequest
           else t.heaters[z].lastRequest * s.drive.budget * 1000 / demand))
    ∧ t = (((s.setDrive t.drive).setHeaters t.heaters).setTimers t.timers)

/-- At a window start every grant is its request where the budget is 0 or the demand within it, and else floor(request ×
budget × 1000 / demand). Under a budget that is not 0 the sum over all zones of grant times rated power never
exceeds budget times 1000; every grant is at most its request; in a sound state every request is at most 1000 (R51). -/
def Obligations.GrantsStayWithinTheBudget : Prop :=
  ∀ s t : State, s.inputs.resetPin = false → exec .windowStart s = .next t →
    (let demand := (allZones.map (fun z => t.heaters[z].lastRequest * s.zones[z].config.ratedPower)).sum
     ∀ z : ZoneIx, t.heaters[z].lastGrant = if s.drive.budget = 0 ∨ demand ≤ s.drive.budget * 1000
       then t.heaters[z].lastRequest else t.heaters[z].lastRequest * s.drive.budget * 1000 / demand)
    ∧ (ZoneInv s → ∀ z : ZoneIx, t.heaters[z].lastRequest ≤ 1000)
    ∧ (s.drive.budget ≠ 0 →
      (allZones.map (fun z => t.heaters[z].lastGrant * s.zones[z].config.ratedPower)).sum ≤ s.drive.budget * 1000)
    ∧ ∀ z : ZoneIx, t.heaters[z].lastGrant ≤ t.heaters[z].lastRequest

/-- ON TIME END (R42): an output that is on goes off when the window has run its on-time, and nothing but the timers and
that output changes; an on-time as long as the window has no end of its own (the model's choice: log 1). -/
def Obligations.OnTimeEndSwitchesOff : Prop :=
  ∀ (s : State) (z : ZoneIx), s.inputs.resetPin = false → s.heaters[z].output = true →
    (s.heaters[z].onTime < s.drive.windowLength → ∃ t, exec (.onTimeEnd z) s = .next t
      ∧ t = (s.setHeaters (s.heaters.set z { s.heaters[z] with output := false })).setTimers t.timers
      ∧ s.heaters[z].onTime ≤ t.timers.window)
    ∧ (s.drive.windowLength ≤ s.heaters[z].onTime → exec (.onTimeEnd z) s = .next s)

/-- SET WINDOW stores the permitted setting nearest the value, a value midway going up, and the running window keeps
its length (R55). SET SUPPLY stores a budget: 0 is unlimited, 1 to 999 clamp to 1000, 1000 to 200000 are stored, and a
value above is refused (R50). A body of the wrong length is BAD_LENGTH. Nothing else changes. -/
def Obligations.WindowAndSupplyAreStored : Prop :=
  ∀ (s : State) (guard : Byte) (v : Nat), s.accepts guard →
    (∀ body : List Byte,
      (body.length ≠ 2 → exec (.setWindow guard body) s = .next (s.answering 0x21 .badLength []))
      ∧ (body.length ≠ 4 → exec (.setSupply guard body) s = .next (s.answering 0x22 .badLength [])))
    ∧ (v < 65536 →
      let w := if v < 500 then 500 else if 8000 < v then 8000
        else if v % 250 < 125 then v - v % 250 else v - v % 250 + 250
      exec (.setWindow guard (be16 v)) s = .next ((s.setDrive { s.drive with windowSetting := w }).answering 0x21
        (if w = v then .done else .doneClamped) (be16 w)))
    ∧ (v ≤ 200000 →
      let b := if v = 0 then 0 else if v < 1000 then 1000 else v
      exec (.setSupply guard (be32 v)) s = .next ((s.setDrive { s.drive with budget := b }).answering 0x22
        (if b = v then .done else .doneClamped) (be32 b)))
    ∧ (200000 < v → v < 4294967296 → exec (.setSupply guard (be32 v)) s = .next (s.answering 0x22 .badValue []))

/-- HEAT (R26, R27, R43, R53, R95): the master takes the value. Off, every zone is OFF, and each that was not has its output
off and its integrator, request and grant 0. On with E_STOP negated, each OFF zone with a working setpoint
enters RAMP, or FAULT with its implausible run at 2. A value already held changes nothing. Between cycles
the ready reasons are evaluated. A body of another length and a byte above 1 are refused. -/
def Obligations.HeatSwitchesTheMaster : Prop :=
  ∀ (s : State) (guard : Byte) (on : Bool), s.accepts guard →
    (∀ body : List Byte, body.length ≠ 1 → exec (.heat guard body) s = .next (s.answering 0x23 .badLength []))
    ∧ (∀ b : Byte, 1 < b.toNat → exec (.heat guard [b]) s = .next (s.answering 0x23 .badValue []))
    ∧ (s.drive.master = on → exec (.heat guard [flag on]) s = .next (s.answering 0x23 .done [flag on]))
    ∧ (s.drive.master ≠ on → ∃ t, exec (.heat guard [flag on]) s = .next t
      ∧ t.drive = { s.drive with master := on }
      ∧ (on = false → ∀ z : ZoneIx, t.zones[z].state = .off ∧ (s.zones[z].state ≠ .off →
        t.zones[z].hot = false ∧ t.zones[z].settleTimer = 0 ∧ t.zones[z].faultAge = 0
        ∧ t.zones[z].plausible = 0 ∧ t.heaters[z].output = false ∧ t.heaters[z].integrator = 0
        ∧ t.heaters[z].lastRequest = 0 ∧ t.heaters[z].lastGrant = 0))
      ∧ (on = true → s.inputs.eStop = false → ∀ z : ZoneIx, s.zones[z].state = .off → s.zones[z].setpoint ≠ 0 →
        t.zones[z].state = (if s.zones[z].implausible = 2 then .fault else .ramp) ∧ t.zones[z].settleTimer = 0)
      ∧ (on = true → s.inputs.eStop = true → (∀ z : ZoneIx, s.zones[z].state = .off) → t.zones = s.zones)
      ∧ (∀ z : ZoneIx, t.zones[z].config = s.zones[z].config ∧ t.zones[z].temp = s.zones[z].temp
        ∧ t.zones[z].setpoint = s.zones[z].setpoint)
      ∧ Reevaluated s t
      ∧ t.tools = s.tools ∧ t.rates = s.rates ∧ t.scale = s.scale ∧ t.queue = s.queue ∧ t.cure = s.cure
      ∧ t.ejector = s.ejector ∧ t.ring = s.ring ∧ t.clocks = s.clocks ∧ t.inputs = s.inputs
      ∧ t.timers = s.timers ∧ t.pending = s.pending ∧ t.port.answer = some ⟨0x23, .done, [flag on]⟩)

/-! ## The charge scale (chapter 4) -/

/-- SET STATION stores a configuration in its ranges at once, and refuses one outside them and a body of the wrong
length (R64, R65); ARM stores a record for a cavity of the mounted tool, and is refused BAD_LENGTH with a body that
disagrees with its lot length, WRONG_STATE with no tool mounted, and BAD_VALUE for a cavity the tool has not, a lot text of
more than 12 characters or with one outside 20h to 7Eh, and a ply count outside 1 to 99 (R66). Nothing else changes. -/
def Obligations.StationAndArmingAreStored : Prop :=
  ∀ (s : State) (guard : Byte), s.accepts guard →
    (∀ c : Station, c.Fits → exec (.setStation guard (setStationBody c)) s
      = .next ((s.setScale { s.scale with station := c }).answering 0x30 .done []))
    ∧ (∀ a b c d e : Nat, a < 65536 → b < 65536 → c < 65536 → d < 65536 → e < 65536 → ¬Station.Fits ⟨a, b, c, d, e⟩ →
      exec (.setStation guard (setStationBody ⟨a, b, c, d, e⟩)) s = .next (s.answering 0x30 .badValue []))
    ∧ (∀ body : List Byte, body.length ≠ 10 →
      exec (.setStation guard body) s = .next (s.answering 0x30 .badLength []))
    ∧ (∀ (t : Tool) (a : Arming), s.mountedTool = some t → t.cavityCount ≤ 4 → a.Fits t.cavityCount →
      exec (.arm guard (armBody a)) s
        = .next ((s.setScale { s.scale with arming := some a }).answering 0x31 .done []))
    ∧ (∀ body : List Byte, ¬(2 ≤ body.length ∧ (body.length = 2 + (body.getD 1 0).toNat
        ∨ body.length = 3 + (body.getD 1 0).toNat)) →
      exec (.arm guard body) s = .next (s.answering 0x31 .badLength []))
    ∧ ∀ a : Arming, a.Carried →
      (s.mountedTool = none → exec (.arm guard (armBody a)) s = .next (s.answering 0x31 .wrongState []))
      ∧ ∀ t : Tool, s.mountedTool = some t → ¬a.Fits t.cavityCount →
        exec (.arm guard (armBody a)) s = .next (s.answering 0x31 .badValue [])

/-- CAPTURE, the key, TARE and SPAN (R68, R75, R76). In IDLE, CAPTURE and the key begin a capture with a snapshot of the
arming record, the recipe's figures for its cavity and the capture timeout, the capture timer at 0; with
nothing armed CAPTURE is refused NOT_ARMED and the key ignored; TARE and SPAN begin a measurement. In any other capture
state the commands are refused WRONG_STATE and the key is ignored. A span mass outside 100 to 65000 is BAD_VALUE, and a
body of the wrong length BAD_LENGTH. -/
def Obligations.ScaleWorkBeginsInIdle : Prop :=
  ∀ s : State, s.inputs.resetPin = false →
    (∀ guard, s.accepts guard → ∀ body : List Byte,
      (body ≠ [] → exec (.capture guard body) s = .next (s.answering 0x32 .badLength [])
        ∧ exec (.tare guard body) s = .next (s.answering 0x33 .badLength []))
      ∧ (body.length ≠ 2 → exec (.span guard body) s = .next (s.answering 0x34 .badLength [])))
    ∧ (s.scale.capture = .idle → ∀ (a : Arming) (r : Recipe) (e : CavityEntry), s.scale.arming = some a →
      s.activeRecipe = some r → r.cavities[a.cavity - 1]? = some e →
      let w := (s.setScale { s.scale with
        capture := .waiting
        snapshot := some ⟨a.cavity, a.lot, a.ply, e.target, e.tolerance, e.outTime, s.scale.station.captureTimeout⟩
        }).setTimers { s.timers with capture := 0 }
      (∀ guard, s.accepts guard → exec (.capture guard []) s = .next (w.answering 0x32 .done [byte a.cavity]))
      ∧ ∀ level, exec (.captureKeyRising level) s = .next (w.setInputs { s.inputs with captureKey := level }))
    ∧ (s.scale.capture = .idle → s.scale.arming = none →
      (∀ guard, s.accepts guard → exec (.capture guard []) s = .next (s.answering 0x32 .notArmed []))
      ∧ ∀ level, exec (.captureKeyRising level) s = .next (s.setInputs { s.inputs with captureKey := level }))
    ∧ (s.scale.capture = .idle → ∀ guard, s.accepts guard →
      exec (.tare guard []) s = .next ((s.setScale { s.scale with
        capture := .measuring, measurement := some ⟨.tare, 0, 0⟩ }).answering 0x33 .done [])
      ∧ ∀ m : Nat, 100 ≤ m → m ≤ 65000 → exec (.span guard (be16 m)) s = .next ((s.setScale { s.scale with
        capture := .measuring, measurement := some ⟨.span m, 0, 0⟩ }).answering 0x34 .done []))
    ∧ (s.scale.capture ≠ .idle →
      (∀ guard, s.accepts guard → exec (.capture guard []) s = .next (s.answering 0x32 .wrongState [])
        ∧ exec (.tare guard []) s = .next (s.answering 0x33 .wrongState [])
        ∧ ∀ m : Nat, 100 ≤ m → m ≤ 65000 →
          exec (.span guard (be16 m)) s = .next (s.answering 0x34 .wrongState []))
      ∧ ∀ level, exec (.captureKeyRising level) s = .next (s.setInputs { s.inputs with captureKey := level }))
    ∧ (∀ guard, s.accepts guard → ∀ m : Nat, m < 65536 → (m < 100 ∨ 65000 < m) →
      exec (.span guard (be16 m)) s = .next (s.answering 0x34 .badValue []))

/-- BRIDGE SAMPLE (R60 to R63, R74): a count at a rail makes the load SIGNAL_FAULT and the stability timer 0; any other
gives a mass, which becomes the reference when it differs by more than the band, and the load state by the
first row that holds. HELD ends, with both lamps off, at the first EMPTY after another load. In IDLE, and in WAITING
with a load that is not STEADY, nothing else than this and the timers changes. -/
def Obligations.BridgeSampleWeighsTheStack : Prop :=
  ∀ (s : State) (count : BitVec 24), s.inputs.resetPin = false → ∃ t, exec (.bridgeSample count) s = .next t
    ∧ (let c := count.toInt
       let m := ((c - s.scale.zero) * s.scale.span).tdiv 65536
       if c = 8388607 ∨ c = -8388607 ∨ c = -8388608 then
         t.scale.load = .signalFault ∧ t.scale.reference = s.scale.reference ∧ t.scale.stabilityTimer = 0
       else
         (if s.scale.station.band < |m - s.scale.reference|
          then t.scale.reference = m ∧ t.scale.stabilityTimer = 0
          else t.scale.reference = s.scale.reference
            ∧ t.scale.stabilityTimer = min 5000 (s.scale.stabilityTimer + 20))
         ∧ t.scale.load = (if t.scale.reference ≤ s.scale.station.emptyThreshold then .empty
           else if s.scale.station.capacity < t.scale.reference then .overload
           else if s.scale.station.time ≤ t.scale.stabilityTimer then .steady else .moving))
    ∧ (s.scale.capture = .held →
      if t.scale.load = .empty ∧ s.scale.load ≠ .empty
      then t.scale.capture = .idle ∧ t.scale.accept = false ∧ t.scale.reject = false
      else t.scale.capture = .held ∧ t.scale.accept = s.scale.accept ∧ t.scale.reject = s.scale.reject)
    ∧ (s.scale.capture = .idle ∨ (s.scale.capture = .waiting ∧ t.scale.load ≠ .steady) →
      t = (s.setScale { s.scale with reference := t.scale.reference, stabilityTimer := t.scale.stabilityTimer,
                                     load := t.scale.load }).setTimers t.timers)
    ∧ t.timers.bridge = 0 ∧ t.scale.station = s.scale.station ∧ t.scale.arming = s.scale.arming
    ∧ t.tools = s.tools ∧ t.rates = s.rates ∧ t.zones = s.zones ∧ t.heaters = s.heaters ∧ t.drive = s.drive
    ∧ t.cure = s.cure ∧ t.ejector = s.ejector ∧ t.ring = s.ring ∧ t.port = s.port ∧ t.clocks = s.clocks
    ∧ t.inputs = s.inputs ∧ t.pending = s.pending

/-- CAPTURE COMPLETE (R69, R72, R73, R80, R81): the sample a waiting capture finds STEADY. A mass off target by more than
the tolerance is rejected; else a full queue loses the charge; else it is admitted as the newest entry under a number
that no queued entry and no record holds, the next charge number if that is free. Every outcome leaves the scale HELD,
lights one lamp and posts one notice. CAPTURE TIMEOUT (R70) in WAITING fails the capture, lights REJECT and posts
CAPTURE_FAILED with the load. A deadline is held as an unsigned 32-bit number (log 10). -/
def Obligations.CaptureOutcomes : Prop :=
  ∀ (s : State) (p : Snapshot), s.inputs.resetPin = false → s.scale.capture = .waiting → s.scale.snapshot = some p →
    (∀ count : BitVec 24, (s.scale.weigh count.toInt).load = .steady →
      let m := (s.scale.weigh count.toInt).reference
      ∃ t, exec (.captureComplete count) s = .next t ∧ exec (.bridgeSample count) s = .next t
      ∧ t.scale.capture = .held ∧ t.scale.snapshot = none ∧ t.scale.reference = m
      ∧ ((p.tolerance : Int) < |m - p.target| ∨ 12 ≤ s.queue.length →
        t.queue = s.queue ∧ t.scale.nextCharge = s.scale.nextCharge ∧ t.cycle = s.cycle
        ∧ t.scale.reject = true ∧ t.scale.accept = s.scale.accept
        ∧ (s.notices.list.length < 16 → t.notices.list = s.notices.list
          ++ [⟨if (p.tolerance : Int) < |m - p.target| then .chargeRejected else .queueFull, s.clocks.part,
            .cavity p.cavity, some m⟩]))
      ∧ (|m - p.target| ≤ (p.tolerance : Int) → s.queue.length < 12 →
        1 ≤ s.scale.nextCharge → s.scale.nextCharge ≤ 65535 → s.heldCharges.length < 65535 →
        ∃ n, n ∉ s.heldCharges ∧ 1 ≤ n ∧ n ≤ 65535 ∧ (s.scale.nextCharge ∉ s.heldCharges → n = s.scale.nextCharge)
        ∧ t.queue = s.queue ++ [⟨n, p.cavity, m.toNat, p.lot, p.ply, s.clocks.part,
            min 4294967295 (s.clocks.run + p.outTime * 60)⟩]
        ∧ t.scale.nextCharge = (if n = 65535 then 1 else n + 1)
        ∧ t.scale.accept = true ∧ t.scale.reject = s.scale.reject
        ∧ (s.notices.list.length < 16 → t.notices.list = s.notices.list
          ++ [⟨.chargeAdmitted, s.clocks.part, .charge n, some m⟩])
        ∧ (CycleInv s → Reevaluated s t)))
    ∧ (s.scale.load ≠ .steady → ∃ t, exec .captureTimeout s = .next t
      ∧ t.scale = { s.scale with capture := .held, snapshot := none, reject := true }
      ∧ (s.notices.list.length < 16 → t.notices.list = s.notices.list
        ++ [⟨.captureFailed, s.clocks.part, .cavity p.cavity, some (match s.scale.load with
          | .empty => 0 | .moving => 1 | .overload => 2 | .signalFault => 3 | .steady => 4)⟩])
      ∧ t = ((s.setScale t.scale).setNotices t.notices).setTimers t.timers)

/-- TARE COMPLETE and SPAN COMPLETE (R75, R76): the sixteenth count. The mean, truncated toward zero, becomes the zero
offset; or the span factor becomes floor(reference × 65536 / (mean − zero)), which fails with value 2 for a
difference not above 0 and value 3 for a factor outside 1 to 262143. A count at a rail fails a measurement at any
count, with value 0 or 1. Every end leaves IDLE, discards the measurement and posts one notice; a failure leaves the
zero offset and the span factor. -/
def Obligations.MeasurementOutcomes : Prop :=
  ∀ (s : State) (k : Measurement) (count : BitVec 24), s.inputs.resetPin = false → s.scale.capture = .measuring →
    s.scale.measurement = some k →
    let c := count.toInt
    let rail := c = 8388607 ∨ c = -8388607 ∨ c = -8388608
    let mean := (k.sum + c).tdiv 16
    let ends := fun (t : State) (zero span : Int) (kind : NoticeKind) (v : Int) =>
      t.scale.zero = zero ∧ t.scale.span = span ∧ t.scale.measurement = none ∧ t.scale.capture = .idle
      ∧ t.scale.accept = s.scale.accept ∧ t.scale.reject = s.scale.reject
      ∧ (s.notices.list.length < 16 →
        t.notices.list = s.notices.list ++ [⟨kind, s.clocks.part, .absent, some v⟩])
    (rail → ∃ t, exec (.bridgeSample count) s = .next t
      ∧ ends t s.scale.zero s.scale.span .spanFailed (if k.kind = .tare then 0 else 1))
    ∧ (¬rail → k.taken < 15 → ∃ t, exec (.bridgeSample count) s = .next t ∧ t.scale.capture = .measuring
      ∧ t.scale.measurement = some ⟨k.kind, k.taken + 1, k.sum + c⟩ ∧ t.scale.zero = s.scale.zero
      ∧ t.scale.span = s.scale.span ∧ t.notices = s.notices)
    ∧ (¬rail → k.taken = 15 → k.kind = .tare → ∃ t, exec (.tareComplete count) s = .next t
      ∧ exec (.bridgeSample count) s = .next t ∧ ends t mean s.scale.span .tareDone mean)
    ∧ (¬rail → k.taken = 15 → ∀ m : Nat, k.kind = .span m → ∃ t, exec (.spanComplete count) s = .next t
      ∧ exec (.bridgeSample count) s = .next t
      ∧ (mean ≤ s.scale.zero → ends t s.scale.zero s.scale.span .spanFailed 2)
      ∧ (s.scale.zero < mean → ∀ f : Int,
        f * (mean - s.scale.zero) ≤ m * 65536 → (m : Int) * 65536 < (f + 1) * (mean - s.scale.zero) →
        if 1 ≤ f ∧ f ≤ 262143 then ends t s.scale.zero f .spanDone f
        else ends t s.scale.zero s.scale.span .spanFailed 3))

/-! ## The charge queue and the second advance (chapter 5, R153) -/

/-- DISCARD removes the entry that holds the number, answers its cavity and mass, and leaves the others in their order;
a number no entry holds is NOT_FOUND, a body of the wrong length BAD_LENGTH (R86). Between cycles the ready reasons agree with the queue afterwards
(R95). -/
def Obligations.DiscardRemovesOneEntry : Prop :=
  ∀ (s : State) (guard : Byte) (n : Nat), s.accepts guard → CycleInv s → (s.queue.map (·.number)).Nodup → n < 65536 →
    (∀ body : List Byte, body.length ≠ 2 → exec (.discard guard body) s = .next (s.answering 0x38 .badLength []))
    ∧ (∀ e ∈ s.queue, e.number = n → ∃ t, exec (.discard guard (be16 n)) s = .next t
      ∧ t.queue = s.queue.filter (fun x => x.number ≠ n)
      ∧ t.port.answer = some ⟨0x38, .done, byte e.cavity :: be16 e.mass⟩
      ∧ Reevaluated s t
      ∧ t = ((s.setQueue t.queue).setCycle t.cycle).setPort t.port)
    ∧ ((∀ e ∈ s.queue, e.number ≠ n) → exec (.discard guard (be16 n)) s = .next (s.answering 0x38 .notFound []))

/-- SECOND ADVANCE (R84, R153): the part clock counts and wraps, the run seconds count and hold at their greatest value.
Where they count, every entry whose deadline they reach leaves the queue, with CHARGE_EXPIRED for each in queue order
while places are free, and the ready reasons agree with the queue afterwards. CHARGE EXPIRY is the advance that
reaches some entry's deadline (log 1). That CHARGE_EXPIRED is stamped with the new part clock is the model's choice
(log 12). -/
def Obligations.SecondAdvanceExpiresCharges : Prop :=
  ∀ s : State, s.inputs.resetPin = false → CycleInv s → ∃ t, exec .secondAdvance s = .next t
    ∧ t.clocks = ⟨(s.clocks.part + 1) % 4294967296, if s.clocks.run < 4294967295 then s.clocks.run + 1 else s.clocks.run⟩
    ∧ (s.clocks.run < 4294967295 →
      t.queue = s.queue.filter (fun e => s.clocks.run + 1 < e.deadline)
      ∧ (let gone := s.queue.filter (fun e => e.deadline ≤ s.clocks.run + 1)
         (s.notices.list.length + gone.length ≤ 16 → t.notices.list = s.notices.list
           ++ gone.map (fun e => ⟨.chargeExpired, t.clocks.part, .charge e.number, some (e.cavity : Int)⟩))
         ∧ (gone ≠ [] → exec .chargeExpiry s = .next t)))
    ∧ (4294967295 ≤ s.clocks.run → t.queue = s.queue ∧ t.notices = s.notices)
    ∧ Reevaluated s t ∧ t.timers.second = 0
    ∧ t = (((((s.setQueue t.queue).setCycle t.cycle).setNotices t.notices).setClocks t.clocks).setTimers t.timers)

/-! ## The press cycle (chapter 6) -/

/-- START that passes its tests (R90, R98, R99, R113, R138, R140): one entry for each cavity, its oldest, leaves the queue;
a record opens with the next serial, the mounted tool, slot and revision, the charges in cavity order and
their required doses; carried past NOT_SETTLED by force it holds NOT_SETTLED_AT_START. The integrator waits with those
doses, the close timer starts at 0, the cycle is in LOADING with CLOSE_PERMIT following EJECT_AT_BACK, and the answer
gives the serial and the charge numbers. -/
def Obligations.StartOpensACycle : Prop :=
  ∀ (s : State) (guard : Byte) (body : List Byte) (force : Bool) (i : SlotIx) (t : Tool) (r : Recipe) (n : Nat),
    s.accepts guard → CycleInv s → (body = [] ∧ force = false ∨ body = [flag force]) →
    s.cycle.state.waits = true → s.cycle.mounted = some i → s.tools[i] = some t → t.active = some r →
    s.ring.nextSerial = some n → s.cycle.reasons.estop = false → s.cycle.reasons.heatOff = false →
    s.cycle.reasons.ringFull = false → s.cycle.reasons.serialSpent = false → s.cycle.reasons.noCharge = false →
    (s.cycle.reasons.notSettled = false ∨ force = true) →
    let charges := (List.range' 1 t.cavityCount).filterMap (fun c => s.queue.find? (fun e => e.cavity == c))
    ∃ u, exec (.start guard body) s = .next u
    ∧ charges.map (·.cavity) = List.range' 1 t.cavityCount
    ∧ u.queue = (List.range' 1 t.cavityCount).foldl (fun q c => q.eraseP (fun e => e.cavity == c)) s.queue
    ∧ u.ring = ⟨s.ring.records ++ [{
        serial := n, opened := true, toolNumber := t.number, slot := i, revision := t.revision
        startTime := s.clocks.part, closeTime := none, releaseTime := none, takeoutTime := none, cureDuration := 0
        cavities := charges.map (fun e => ⟨e.number, e.mass, e.lot, e.ply, r.requiredFor e, 0⟩)
        tg := none, strokes := 0, retries := 0, outcome := .good
        faults := if s.cycle.reasons.notSettled then 1 else 0, verdict := !s.cycle.reasons.notSettled }],
      if n < 4294967295 then some (n + 1) else none⟩
    ∧ u.cure = ⟨.pending, 0, charges.map (fun e => ⟨r.requiredFor e, 0, none⟩)⟩
    ∧ u.cycle = { s.cycle with state := .loading, reasons := ReadyReasons.none, ready := false,
                               closePermit := s.inputs.ejectAtBack, openPermit := false }
    ∧ u.timers = { s.timers with close := 0, cure := 0 }
    ∧ u.port.answer = some ⟨0x40, .done, be32 n ++ (charges.map (fun e => be16 e.number)).flatten⟩
    ∧ u = (((((s.setQueue u.queue).setRing u.ring).setCure u.cure).setCycle u.cycle).setTimers u.timers).setPort u.port

/-- START refused (R97): a body longer than one byte, a force byte above 1, a state other than STANDBY and READY, and then
the first of ESTOP, HEAT_OFF, RING_FULL, SERIAL_SPENT, NO_CHARGE and, without force, NOT_SETTLED that holds. The status
says which, and no block's state is changed. -/
def Obligations.StartRefusals : Prop :=
  ∀ (s : State) (guard : Byte), s.accepts guard →
    (∀ body : List Byte, 2 ≤ body.length → exec (.start guard body) s = .next (s.answering 0x40 .badLength []))
    ∧ (∀ b : Byte, 1 < b.toNat → exec (.start guard [b]) s = .next (s.answering 0x40 .badValue []))
    ∧ ∀ (body : List Byte) (force : Bool), body = [] ∧ force = false ∨ body = [flag force] →
      (s.cycle.state.waits = false → exec (.start guard body) s = .next (s.answering 0x40 .wrongState []))
      ∧ (s.cycle.state.waits = true → ∀ status : Status,
        (if s.cycle.reasons.estop then some Status.halted else if s.cycle.reasons.heatOff then some .heatOff
          else if s.cycle.reasons.ringFull then some .ringFull
          else if s.cycle.reasons.serialSpent then some .serialSpent
          else if s.cycle.reasons.noCharge then some .noCharge
          else if s.cycle.reasons.notSettled ∧ force = false then some .notSettled else none) = some status →
        exec (.start guard body) s = .next (s.answering 0x40 status []))

/-- ABORT by cycle state (R105, R122, R124): refused outside the running states; without effect in TAKEOUT. The open
record holds ABORT and, but in EJECTING, the outcome ABORTED. LOADING goes to TAKEOUT, or closes at once with
TAKEOUT_CLEAR asserted; CURING goes to RELEASE with its doses written, or on to EJECTING with PRESS_OPEN asserted and
E_STOP negated; RELEASE stays; EJECTING is abandoned as ABANDON EJECT does, in STALLED at once, and closes with
TAKEOUT_CLEAR asserted. A body that is not empty is BAD_LENGTH. That the ejector's counters and marks keep their values
in IDLE is the model's choice (log 14). -/
def Obligations.AbortActsByState : Prop :=
  ∀ (s : State) (guard : Byte), s.accepts guard →
    let mark := fun (o : PartOutcome) (p : PartRecord) =>
      ({ p with faults := p.faults ||| 4, verdict := false, outcome := o } : PartRecord)
    (∀ body : List Byte, body ≠ [] → exec (.abort guard body) s = .next (s.answering 0x41 .badLength []))
    ∧ (s.cycle.state.running = false → exec (.abort guard []) s = .next (s.answering 0x41 .wrongState []))
    ∧ (s.cycle.state = .takeout → exec (.abort guard []) s = .next (s.answering 0x41 .done [7]))
    ∧ (s.cycle.state = .release → exec (.abort guard []) s = .next ((s.setRing { s.ring with
        records := s.ring.records.map (fun p => if p.opened then mark .aborted p else p) }).answering 0x41 .done [5]))
    ∧ (s.cycle.state = .loading → ∃ t, exec (.abort guard []) s = .next t
      ∧ t.ring.nextSerial = s.ring.nextSerial
      ∧ (s.inputs.takeoutClear = false → t.cycle.state = .takeout ∧ t.cycle.closePermit = false
        ∧ t.cure = { s.cure with phase := .ended } ∧ t.port.answer = some ⟨0x41, .done, [7]⟩
        ∧ t.ring.records = s.ring.records.map (fun p => if p.opened then mark .aborted p else p))
      ∧ (s.inputs.takeoutClear = true → t.cycle.state.waits = true ∧ t.cure = Cure.reset
        ∧ (s.ring.records.any (·.opened) = true → t.cycle.clean = false)
        ∧ ((s.ring.records.filter (·.opened)).length ≤ 1 → t.ring.records = s.ring.records.map (fun p =>
          if p.opened then { mark .aborted p with opened := false, takeoutTime := some s.clocks.part } else p)))
      ∧ t.rates = s.rates ∧ t.drive = s.drive ∧ t.scale = s.scale ∧ t.queue = s.queue ∧ t.ejector = s.ejector
      ∧ t.clocks = s.clocks ∧ t.inputs = s.inputs ∧ t.pending = s.pending)
    ∧ (s.cycle.state = .curing → ∃ t, exec (.abort guard []) s = .next t
      ∧ t.cycle.state = (if s.inputs.pressOpen = true ∧ s.inputs.eStop = false then .ejecting else .release)
      ∧ t.cure = { s.cure with phase := .ended }
      ∧ t.ring.records = s.ring.records.map (fun p => if p.opened then { mark .aborted p with
          releaseTime := some s.clocks.part, cureDuration := s.cure.elapsed
          cavities := writeDoses p.cavities s.cure.cavities } else p)
      ∧ t.port.answer = some ⟨0x41, .done, [byte t.cycle.state.code]⟩
      ∧ t.tools = s.tools ∧ t.rates = s.rates ∧ t.zones = s.zones ∧ t.heaters = s.heaters ∧ t.drive = s.drive
      ∧ t.scale = s.scale ∧ t.queue = s.queue ∧ t.notices = s.notices ∧ t.clocks = s.clocks
      ∧ t.inputs = s.inputs ∧ t.pending = s.pending)
    ∧ (s.cycle.state = .ejecting → (s.ejector.sub = .extending ∨ s.ejector.sub = .retracting ∨ s.ejector.sub = .jammed) →
      exec (.abort guard []) s = .next (((s.setRing { s.ring with
        records := s.ring.records.map (fun p => if p.opened then mark p.outcome p else p) }).setEjector
        { s.ejector with abandonPending := true }).answering 0x41 .done [byte s.ejector.sub.code]))
    ∧ (s.cycle.state = .ejecting → s.ejector.sub = .stalled → ∃ t,
      exec (.abort guard []) s = .next t ∧ t.ejector = { s.ejector with sub := .idle, fwd := false }
      ∧ t.port.answer = some ⟨0x41, .done, [0]⟩
      ∧ (s.inputs.takeoutClear = false → t.cycle.state = .takeout ∧ t.cure = s.cure
        ∧ t.ring.records = s.ring.records.map (fun p => if p.opened then { mark .ejectAbandoned p with
          strokes := s.ejector.strokes, retries := s.ejector.retries } else p))
      ∧ (s.inputs.takeoutClear = true → t.cycle.state.waits = true ∧ t.cure = Cure.reset
        ∧ (s.ring.records.any (·.opened) = true → t.cycle.clean = false)
        ∧ t.ring.records = s.ring.records.map (fun p => if p.opened then { mark .ejectAbandoned p with
          strokes := s.ejector.strokes, retries := s.ejector.retries
          opened := false, takeoutTime := some s.clocks.part } else p))
      ∧ t.rates = s.rates ∧ t.drive = s.drive ∧ t.scale = s.scale ∧ t.queue = s.queue
      ∧ t.clocks = s.clocks ∧ t.inputs = s.inputs ∧ t.pending = s.pending)

/-- E_STOP (R38, R106, R107, R135). Rising: the ESTOP notice comes first, with the open record's serial; every zone is OFF
with its output off; between cycles ESTOP is among the reasons; LOADING goes to TAKEOUT (or closes), CURING to RELEASE,
both ABORTED; in every running state the record holds ESTOP (also where
the same edge ends the sequence, the model's choice: log 11); no permit and no EJECT_FWD is on,
and the stalled mark is cleared (in every sub-state, the model's choice: log 18). Falling: each OFF
zone with a working setpoint, the master on, enters RAMP, or FAULT with its implausible run at 2; RELEASE has its
OPEN_PERMIT, or goes to EJECTING with PRESS_OPEN asserted. -/
def Obligations.EmergencyStopRisesAndFalls : Prop :=
  ∀ s : State, s.inputs.resetPin = false →
    (∃ t, exec .eStopRising s = .next t ∧ t.inputs = { s.inputs with eStop := true }
      ∧ (s.notices.list.length < 16 →
        s.notices.list ++ [⟨.estop, s.clocks.part, s.openSubject, none⟩] <+: t.notices.list)
      ∧ (∀ z : ZoneIx, t.zones[z].state = .off ∧ (s.zones[z].state ≠ .off → t.heaters[z].output = false
        ∧ t.heaters[z].integrator = 0 ∧ t.heaters[z].lastRequest = 0 ∧ t.heaters[z].lastGrant = 0))
      ∧ (PermitInv s → t.cycle.closePermit = false ∧ t.cycle.openPermit = false)
      ∧ (EjectorInv s → t.ejector.fwd = false)
      ∧ (s.cycle.state.waits = true → t.cycle.state = .standby ∧ t.cycle.reasons.estop = true)
      ∧ (s.cycle.state = .loading → t.cure.phase ≠ .pending
        ∧ (if s.inputs.takeoutClear then t.cycle.state.waits = true else t.cycle.state = .takeout))
      ∧ (s.cycle.state = .curing → t.cycle.state = .release ∧ t.cure = { s.cure with phase := .ended })
      ∧ (s.cycle.state = .release ∨ s.cycle.state = .takeout → t.cycle.state = s.cycle.state)
      ∧ (s.cycle.state = .ejecting → s.ejector.abandonPending = false → t.cycle.state = .ejecting
        ∧ t.ejector = { s.ejector with fwd := false, stalledMark := false,
                                       sub := if s.inputs.ejectAtBack then .stalled else .jammed })
      ∧ (s.cycle.state.running = true → ∀ (j : Nat) (p : PartRecord), s.ring.records[j]? = some p → p.opened = true →
        ∃ q, t.ring.records[j]? = some q ∧ q.serial = p.serial ∧ FaultSet.holds q.faults .estop = true ∧ q.verdict = false
        ∧ (s.cycle.state = .loading ∨ s.cycle.state = .curing → q.outcome = .aborted)
        ∧ (s.cycle.state = .release ∨ s.cycle.state = .takeout → q.outcome = p.outcome))
      ∧ t.queue = s.queue ∧ t.scale = s.scale ∧ t.rates = s.rates ∧ t.drive = s.drive ∧ t.clocks = s.clocks
      ∧ t.port = s.port ∧ t.pending = s.pending)
    ∧ (∃ t, exec .eStopFalling s = .next t ∧ t.inputs = { s.inputs with eStop := false }
      ∧ (∀ z : ZoneIx, s.zones[z].state = .off → s.zones[z].setpoint ≠ 0 → s.drive.master = true →
        t.zones[z].state = (if s.zones[z].implausible = 2 then .fault else .ramp))
      ∧ (s.cycle.state.waits = true → Reevaluated s t ∧ t.cycle.reasons.estop = false)
      ∧ (s.cycle.state = .release → s.inputs.pressOpen = false →
        t.cycle = { s.cycle with closePermit := false, openPermit := true } ∧ t.ejector = s.ejector)
      ∧ (s.cycle.state = .release → s.inputs.pressOpen = true → t.cycle.state = .ejecting
        ∧ t.cycle.openPermit = false ∧ t.ejector = ⟨.extending, false, false, 0, 0, true⟩ ∧ t.timers.stroke = 0)
      ∧ (s.cycle.state = .noTool ∨ s.cycle.state = .curing ∨ s.cycle.state = .ejecting ∨ s.cycle.state = .takeout →
        t.cycle = s.cycle ∧ t.ejector = s.ejector)
      ∧ t.tools = s.tools ∧ t.rates = s.rates ∧ t.drive = s.drive ∧ t.scale = s.scale ∧ t.queue = s.queue
      ∧ t.cure = s.cure ∧ t.ring = s.ring ∧ t.clocks = s.clocks ∧ t.port = s.port ∧ t.pending = s.pending)

/-- PRESS CLOSED (R100, R101, R108, R114). Rising in LOADING: the close time is the part clock, the cure accumulates with its
timer at 0, and both permits are off in CURING. Falling in CURING: the doses so far are written, the record holds
OPENED_EARLY and is ABORTED, and the cycle goes to RELEASE, or on to EJECTING. In every other state the edge leaves no
trace but the level. -/
def Obligations.PressClosedEdges : Prop :=
  ∀ s : State, s.inputs.resetPin = false →
    (s.cycle.state ≠ .loading → exec .pressClosedRising s = .next (s.setInputs { s.inputs with pressClosed := true }))
    ∧ (s.cycle.state = .loading → exec .pressClosedRising s = .next
      (((((s.setInputs { s.inputs with pressClosed := true }).setRing { s.ring with
        records := s.ring.records.map (fun p => if p.opened then { p with closeTime := some s.clocks.part } else p) }).setCure
        { s.cure with phase := .accumulating }).setTimers { s.timers with cure := 0 }).setCycle
        { s.cycle with state := .curing, reasons := ReadyReasons.none, ready := false,
                       closePermit := false, openPermit := false }))
    ∧ (s.cycle.state ≠ .curing → exec .pressClosedFalling s = .next (s.setInputs { s.inputs with pressClosed := false }))
    ∧ (s.cycle.state = .curing → ∃ t, exec .pressClosedFalling s = .next t
      ∧ t.inputs = { s.inputs with pressClosed := false }
      ∧ t.cure = { s.cure with phase := .ended }
      ∧ t.ring.records = s.ring.records.map (fun p => if p.opened then { p with
          faults := p.faults ||| 16, verdict := false, outcome := .aborted, releaseTime := some s.clocks.part
          cureDuration := s.cure.elapsed, cavities := writeDoses p.cavities s.cure.cavities } else p)
      ∧ t.cycle.overduePosted = false
      ∧ (if s.inputs.pressOpen = true ∧ s.inputs.eStop = false
        then t.cycle.state = .ejecting ∧ t.cycle.openPermit = false ∧ t.ejector = ⟨.extending, false, false, 0, 0, true⟩
        else t.cycle.state = .release ∧ t.cycle.openPermit = !s.inputs.eStop ∧ t.ejector = s.ejector
          ∧ t.timers = { s.timers with opening := 0 })
      ∧ t.tools = s.tools ∧ t.rates = s.rates ∧ t.zones = s.zones ∧ t.heaters = s.heaters ∧ t.drive = s.drive
      ∧ t.scale = s.scale ∧ t.queue = s.queue ∧ t.notices = s.notices ∧ t.clocks = s.clocks ∧ t.port = s.port
      ∧ t.pending = s.pending)

/-- CLOSE TIMEOUT in LOADING (R100, R124): the open record holds CLOSE_TIMEOUT and is ABORTED, CLOSE_OVERDUE is posted with
the serial and the close timeout in seconds, and the cycle is in TAKEOUT without a cure, or closes with TAKEOUT_CLEAR
asserted, the record CLOSED with its take-out time and CLEAN false (R104). OPEN OVERDUE in RELEASE (R102): the notice is posted once in each RELEASE, and nothing else but the timers
changes. -/
def Obligations.PressTimeouts : Prop :=
  ∀ (s : State) (r : Recipe), s.inputs.resetPin = false → s.activeRecipe = some r →
    (s.cycle.state = .loading → ∃ t, exec .closeTimeout s = .next t
      ∧ (s.notices.list.length < 16 →
        s.notices.list ++ [⟨.closeOverdue, s.clocks.part, s.openSubject, some r.closeTimeout⟩] <+: t.notices.list)
      ∧ (s.inputs.takeoutClear = false → t.cycle.state = .takeout ∧ t.cycle.closePermit = false
        ∧ t.cure = { s.cure with phase := .ended }
        ∧ t.ring.records = s.ring.records.map (fun p =>
          if p.opened then { p with faults := p.faults ||| 2, verdict := false, outcome := .aborted } else p))
      ∧ (s.inputs.takeoutClear = true → t.cycle.state.waits = true ∧ t.cure = Cure.reset
        ∧ (s.ring.records.any (·.opened) = true → t.cycle.clean = false)
        ∧ t.ring.records = s.ring.records.map (fun p =>
          if p.opened then { p with faults := p.faults ||| 2, verdict := false, outcome := .aborted
                                    opened := false, takeoutTime := some s.clocks.part } else p))
      ∧ t.ring.nextSerial = s.ring.nextSerial
      ∧ t.rates = s.rates ∧ t.drive = s.drive ∧ t.scale = s.scale ∧ t.queue = s.queue ∧ t.ejector = s.ejector
      ∧ t.clocks = s.clocks ∧ t.inputs = s.inputs ∧ t.port = s.port ∧ t.pending = s.pending)
    ∧ (s.cycle.state = .release → s.cycle.overduePosted = false → ∃ t, exec .openOverdue s = .next t
      ∧ t.cycle = { s.cycle with overduePosted := true }
      ∧ (s.notices.list.length < 16 → t.notices.list = s.notices.list
        ++ [⟨.openOverdue, s.clocks.part, s.openSubject, some r.openOverdue⟩])
      ∧ t = ((s.setNotices t.notices).setCycle t.cycle).setTimers t.timers)
    ∧ (s.cycle.state = .release → s.cycle.overduePosted = true → exec .openOverdue s = .next s)

/-- PRESS OPEN rising (R102, R103, R108, R128): in RELEASE with E_STOP negated the cycle goes to EJECTING, where stroke 1
begins with the counts at 0; elsewhere only the level is left. TAKEOUT CLEAR rising (R104, R108): in TAKEOUT the open
record is CLOSED with its take-out time, PART_CLOSED is posted with its verdict, CLEAN takes the verdict, the
integrator is IDLE, a waiting recipe is promoted, and the cycle is in STANDBY or READY by the reasons as they stand;
elsewhere only the level is left. -/
def Obligations.PressOpenAndTakeoutClear : Prop :=
  ∀ (s : State) (level : Bool), s.inputs.resetPin = false →
    (s.cycle.state = .release → s.inputs.eStop = false →
      exec (.pressOpenRising level) s = .next ((((s.setInputs { s.inputs with pressOpen := level }).setCycle
        { s.cycle with state := .ejecting, reasons := ReadyReasons.none, ready := false,
                       closePermit := false, openPermit := false }).setEjector
        ⟨.extending, false, false, 0, 0, true⟩).setTimers { s.timers with stroke := 0 }))
    ∧ (s.cycle.state ≠ .release ∨ s.inputs.eStop = true →
      exec (.pressOpenRising level) s = .next (s.setInputs { s.inputs with pressOpen := level }))
    ∧ (s.cycle.state ≠ .takeout →
      exec (.takeoutClearRising level) s = .next (s.setInputs { s.inputs with takeoutClear := level }))
    ∧ (∀ p : PartRecord, s.cycle.state = .takeout → s.openRecord = some p → ∃ t,
      exec (.takeoutClearRising level) s = .next t
      ∧ t.ring = { s.ring with records := s.ring.records.map (fun q =>
          if q.opened then { q with opened := false, takeoutTime := some s.clocks.part } else q) }
      ∧ (s.notices.list.length < 16 → s.notices.list
        ++ [⟨.partClosed, s.clocks.part, .serial p.serial, some (if p.verdict then 1 else 0)⟩] <+: t.notices.list)
      ∧ t.cycle = { s.cycle with
          clean := p.verdict, closePermit := false, openPermit := false, reasons := t.conditions
          ready := t.conditions.isNone, state := if t.conditions.isNone then .ready else .standby }
      ∧ t.cure = ⟨.idle, 0, []⟩
      ∧ (∀ (i : SlotIx) (u : Tool), s.cycle.mounted = some i → s.tools[i] = some u →
        t.tools[i] = some (match u.staged with
          | none => u
          | some r => { u with active := some r, staged := none, revision := (u.revision + 1) % 65536 }))
      ∧ t.inputs = { s.inputs with takeoutClear := level }
      ∧ t.rates = s.rates ∧ t.drive = s.drive ∧ t.scale = s.scale ∧ t.queue = s.queue ∧ t.ejector = s.ejector
      ∧ t.clocks = s.clocks ∧ t.port = s.port ∧ t.pending = s.pending)

/-! ## The cure (chapter 7) -/

/-- The rate of a governing temperature under a table (R116): 0 below the first point; else the last rate at or above the
last point; else, in a table that rises strictly, the floored interpolation within the segment. The excess of a charge is its
permille above target, truncated toward zero and clamped to 0 to 200 (R112); the required dose is D + D × excess ×
gain / 100000 floored, where D is 256 times the base dose (R113). -/
def Obligations.RatesAndDoses : Prop :=
  (∀ (t : RateTable) (x : Int),
    (x < t[0].temp → rateFor t x = 0)
    ∧ (t[0].temp ≤ x → t[15].temp ≤ x → rateFor t x = t[15].rate)
    ∧ ((∀ i j : Fin 16, i < j → t[i].temp < t[j].temp) → ∀ k : Fin 15, t[k.castSucc].temp ≤ x → x < t[k.succ].temp → (rateFor t x : Int) = t[k.castSucc].rate
      + ((t[k.succ].rate : Int) - t[k.castSucc].rate) * (x - t[k.castSucc].temp) / (t[k.succ].temp - t[k.castSucc].temp)))
  ∧ ∀ (r : Recipe) (e : ChargeEntry) (c : CavityEntry), r.cavities[e.cavity - 1]? = some c → 1 ≤ c.target →
    (e.mass ≤ c.target → r.requiredFor e = r.baseDose * 256)
    ∧ (c.target ≤ e.mass → r.requiredFor e = r.baseDose * 256
      + r.baseDose * 256 * min 200 ((e.mass - c.target) * 1000 / c.target) * r.massGain / 100000)

/-- CURE SECOND, its figures (R114, R115, R117 to R120): the elapsed cure advances by one; each cavity's accumulator gains
the rate of its governing temperature, the lowest of its zones that are not in FAULT, and its extremes widen to it; with
all its zones in FAULT it keeps both. The open record gains SENSOR_LOST for a zone of a cavity in FAULT,
NO_GOVERNING_SENSOR for a cavity without one, TEMP_EXCURSION for a used zone not SETTLED, and keeps every fault it
held; its Tg min and Tg max are the lowest and the highest of the cavities' extremes, absent while no cavity has
any (R118). -/
def Obligations.CureSecondAccumulates : Prop :=
  ∀ (s : State) (t : Tool) (r : Recipe), s.inputs.resetPin = false → s.cycle.state = .curing →
    s.cure.phase = .accumulating →
    s.mountedTool = some t → t.active = some r → s.cure.cavities.length ≤ 4 → ∃ u,
    exec .cureSecond s = .next u ∧ u.cure.elapsed = s.cure.elapsed + 1
    ∧ u.cure.cavities.length = s.cure.cavities.length
    ∧ (∀ (k : Fin 4) (c : CavityCure), s.cure.cavities[k.val]? = some c → ∃ d, u.cure.cavities[k.val]? = some d
      ∧ d.required = c.required
      ∧ ((∀ z : ZoneIx, ZoneSet.has t.cavityZones[k] z = true → s.zones[z].state = .fault) → d = c)
      ∧ ∀ y : ZoneIx, ZoneSet.has t.cavityZones[k] y = true → s.zones[y].state ≠ .fault →
        (∀ z : ZoneIx, ZoneSet.has t.cavityZones[k] z = true → s.zones[z].state ≠ .fault →
          s.zones[y].temp ≤ s.zones[z].temp) →
        d.dose = min 4294967295 (c.dose + rateFor s.rates[r.rateTable] s.zones[y].temp)
        ∧ d.extremes = some (match c.extremes with
          | none => (s.zones[y].temp, s.zones[y].temp)
          | some (lo, hi) => (min lo s.zones[y].temp, max hi s.zones[y].temp)))
    ∧ (∀ (j : Nat) (p : PartRecord), s.ring.records[j]? = some p → p.opened = true → ∃ q,
      u.ring.records[j]? = some q ∧ q.serial = p.serial
      ∧ (FaultSet.holds q.faults .sensorLost = true ↔ FaultSet.holds p.faults .sensorLost = true
        ∨ ∃ (k : Fin 4) (z : ZoneIx), k.val < s.cure.cavities.length ∧ ZoneSet.has t.cavityZones[k] z = true
          ∧ s.zones[z].state = .fault)
      ∧ (FaultSet.holds q.faults .noGoverningSensor = true ↔ FaultSet.holds p.faults .noGoverningSensor = true
        ∨ ∃ k : Fin 4, k.val < s.cure.cavities.length
          ∧ ∀ z : ZoneIx, ZoneSet.has t.cavityZones[k] z = true → s.zones[z].state = .fault)
      ∧ (FaultSet.holds q.faults .tempExcursion = true ↔ FaultSet.holds p.faults .tempExcursion = true
        ∨ ∃ z : ZoneIx, s.usesZone z = true ∧ s.zones[z].state ≠ .settled)
      ∧ (q.tg = none ↔ ∀ d ∈ u.cure.cavities, d.extremes = none)
      ∧ (∀ a, q.tg = some a →
        (∃ d ∈ u.cure.cavities, ∃ e, d.extremes = some e ∧ e.1 = a.1)
        ∧ (∃ d ∈ u.cure.cavities, ∃ e, d.extremes = some e ∧ e.2 = a.2)
        ∧ ∀ d ∈ u.cure.cavities, ∀ e, d.extremes = some e → a.1 ≤ e.1 ∧ e.2 ≤ a.2)
      ∧ ∀ c : FaultCode, FaultSet.holds p.faults c = true → FaultSet.holds q.faults c = true)
    ∧ (∀ (j : Nat) (p : PartRecord), s.ring.records[j]? = some p → p.opened = false → u.ring.records[j]? = some p)
    ∧ u.tools = s.tools ∧ u.rates = s.rates ∧ u.zones = s.zones ∧ u.heaters = s.heaters ∧ u.drive = s.drive
    ∧ u.scale = s.scale ∧ u.queue = s.queue ∧ u.clocks = s.clocks ∧ u.inputs = s.inputs ∧ u.port = s.port
    ∧ u.pending = s.pending

/-- CURE SECOND, its decision (R121, R122): with every dose reached and the minimum cure elapsed, CURE_MET is posted; else with
the maximum cure elapsed, UNDERCURED is posted with the number of cavities short and the record holds UNDERCURE and
the outcome UNDERCURED. Both end the cure: doses and duration are written, the release time set, and the cycle
goes to RELEASE or on to EJECTING. Else the cure goes on. MAXIMUM CURE REACHED is the cure second at which the maximum
has elapsed. -/
def Obligations.CureSecondDecidesTheRelease : Prop :=
  ∀ (s : State) (t : Tool) (r : Recipe), s.inputs.resetPin = false → s.cycle.state = .curing →
    s.cure.phase = .accumulating →
    s.mountedTool = some t → t.active = some r → ∃ u, exec .cureSecond s = .next u
    ∧ (let met := (∀ d ∈ u.cure.cavities, d.required ≤ d.dose) ∧ r.minCure ≤ s.cure.elapsed + 1
       let late := r.maxCure ≤ s.cure.elapsed + 1
       let short := u.cure.cavities.filter (fun d => d.dose < d.required)
       (met ∨ late → u.cure.phase = .ended
         ∧ u.cycle.state = (if s.inputs.pressOpen = true ∧ s.inputs.eStop = false then .ejecting else .release)
         ∧ ∀ (j : Nat) (p : PartRecord), s.ring.records[j]? = some p → p.opened = true → ∃ q,
           u.ring.records[j]? = some q ∧ q.cureDuration = s.cure.elapsed + 1 ∧ q.releaseTime = some s.clocks.part
           ∧ q.cavities = writeDoses p.cavities u.cure.cavities
           ∧ q.outcome = (if met then p.outcome else .undercured)
           ∧ (¬met → FaultSet.holds q.faults .undercure = true ∧ q.verdict = false))
       ∧ (met → s.notices.list.length < 16 → u.notices.list = s.notices.list
         ++ [⟨.cureMet, s.clocks.part, s.openSubject, some ((s.cure.elapsed + 1 : Nat) : Int)⟩])
       ∧ (¬met → late → s.notices.list.length < 16 → u.notices.list = s.notices.list
         ++ [⟨.undercured, s.clocks.part, s.openSubject, some (short.length : Int)⟩])
       ∧ (¬met → ¬late → u.cure.phase = .accumulating ∧ u.cycle = s.cycle ∧ u.notices = s.notices)
       ∧ (late → exec .maximumCureReached s = .next u))

/-! ## Ejection (chapter 8) -/

/-- RETRY EJECT in EJECTING, STALLED, with fewer than three retries used and E_STOP negated, counts a retry and begins stroke 1
of a fresh set; else it is refused, a body that is not empty BAD_LENGTH (R133). ABANDON EJECT is refused outside EJECTING; in EXTENDING, RETRACTING and
JAMMED it waits for the ejector to be back; in STALLED the sequence ends: outcome EJECT_ABANDONED, strokes and
retries written, TAKEOUT, where an asserted TAKEOUT_CLEAR closes the cycle, the record CLOSED with its take-out time
and CLEAN its verdict (R134, R104). That the ejector's counters and marks keep their values
in IDLE is the model's choice (log 14). -/
def Obligations.RetryAndAbandon : Prop :=
  ∀ (s : State) (guard : Byte), s.accepts guard →
    (∀ body : List Byte, body ≠ [] →
      exec (.retryEject guard body) s = .next (s.answering 0x42 .badLength [])
      ∧ exec (.abandonEject guard body) s = .next (s.answering 0x43 .badLength []))
    ∧ (s.cycle.state = .ejecting → s.ejector.sub = .stalled → s.ejector.retries < 3 → s.inputs.eStop = false →
      exec (.retryEject guard []) s = .next (((s.setEjector { s.ejector with
        sub := .extending, fwd := true, retries := s.ejector.retries + 1, strokes := 0, stalledMark := false }).setTimers
        { s.timers with stroke := 0 }).answering 0x42 .done [1, byte (s.ejector.retries + 1)]))
    ∧ (s.cycle.state ≠ .ejecting ∨ s.ejector.sub ≠ .stalled ∨ 3 ≤ s.ejector.retries ∨ s.inputs.eStop = true →
      exec (.retryEject guard []) s = .next (s.answering 0x42 .wrongState []))
    ∧ (s.cycle.state ≠ .ejecting → exec (.abandonEject guard []) s = .next (s.answering 0x43 .wrongState []))
    ∧ (s.cycle.state = .ejecting → (s.ejector.sub = .extending ∨ s.ejector.sub = .retracting ∨ s.ejector.sub = .jammed) →
      exec (.abandonEject guard []) s = .next ((s.setEjector { s.ejector with abandonPending := true }).answering
        0x43 .done [byte s.ejector.sub.code]))
    ∧ (s.cycle.state = .ejecting → s.ejector.sub = .stalled → ∃ t, exec (.abandonEject guard []) s = .next t
      ∧ t.ejector = { s.ejector with sub := .idle, fwd := false }
      ∧ t.port.answer = some ⟨0x43, .done, [0]⟩
      ∧ (if s.inputs.takeoutClear then t.cycle.state.waits = true ∧ t.cure = Cure.reset
          ∧ (∀ p : PartRecord, s.openRecord = some p → t.cycle.clean = p.verdict)
        else t.cycle.state = .takeout ∧ t.cure = s.cure ∧ t.cycle.clean = s.cycle.clean)
      ∧ t.ring = { s.ring with records := s.ring.records.map (fun p => if p.opened then { p with
          outcome := .ejectAbandoned, strokes := s.ejector.strokes, retries := s.ejector.retries
          opened := !s.inputs.takeoutClear
          takeoutTime := if s.inputs.takeoutClear then some s.clocks.part else p.takeoutTime } else p) }
      ∧ t.queue = s.queue ∧ t.scale = s.scale ∧ t.rates = s.rates ∧ t.drive = s.drive ∧ t.clocks = s.clocks
      ∧ t.inputs = s.inputs ∧ t.pending = s.pending)

/-- The ejector's events in EJECTING (R129 to R132, R136; R99 in LOADING). Forward in EXTENDING counts the stroke and retracts;
a stall does so without counting, with the fault, the notice and the mark; in RETRACTING the back position, asserted
already or rising, decides: abandonment, STALLED, the next stroke, or the end of the sequence; a jam is posted and
left by the back position, for STALLED or with an abandonment pending for the end of the sequence; a stall with an
abandonment pending and the ejector back ends the sequence too. Every end writes strokes and retries, and the outcome
of an abandonment; with TAKEOUT_CLEAR asserted the cycle closes, the record CLOSED with its take-out time and CLEAN its
verdict (R104). The back position does nothing in EXTENDING and
STALLED. Elsewhere the edges leave only the level, and EJECT_AT_BACK gives or takes CLOSE_PERMIT in
LOADING. That the ejector's counters and marks keep their values in IDLE is the model's choice (log 14). -/
def Obligations.EjectorEvents : Prop :=
  ∀ (s : State) (r : Recipe), s.inputs.resetPin = false → s.activeRecipe = some r → PermitInv s →
    let level := fun (b : Bool) => ({ s.inputs with ejectAtBack := b } : Inputs)
    let ended := fun (t : State) (abandoned : Bool) (f : FaultSet) =>
      t.ejector.sub = .idle ∧ t.ejector.fwd = false ∧ t.ejector.strokes = s.ejector.strokes
      ∧ t.ejector.retries = s.ejector.retries ∧ t.scale = s.scale ∧ t.queue = s.queue ∧ t.clocks = s.clocks
      ∧ (if s.inputs.takeoutClear then t.cycle.state.waits = true ∧ t.cure = Cure.reset
          ∧ (∀ p : PartRecord, s.openRecord = some p → t.cycle.clean = (p.verdict && decide (f = 0)))
        else t.cycle.state = .takeout ∧ t.cure = s.cure ∧ t.cycle.clean = s.cycle.clean)
      ∧ t.ring = { s.ring with records := s.ring.records.map (fun p => if p.opened then { p with
          outcome := if abandoned then .ejectAbandoned else p.outcome
          strokes := s.ejector.strokes, retries := s.ejector.retries
          faults := p.faults ||| f, verdict := if f = 0 then p.verdict else false
          opened := !s.inputs.takeoutClear
          takeoutTime := if s.inputs.takeoutClear then some s.clocks.part else p.takeoutTime } else p) }
    (∀ b : Bool, s.cycle.state ≠ .ejecting ∨ s.ejector.sub ≠ .extending →
      exec (.ejectAtFwdRising b) s = .next (s.setInputs { s.inputs with ejectAtFwd := b }))
    ∧ (s.cycle.state = .ejecting → s.ejector.sub = .extending →
      let m := (s.setEjector { s.ejector with sub := .retracting, fwd := false, stalledMark := false,
                                              strokes := s.ejector.strokes + 1 }).setTimers { s.timers with stroke := 0 }
      (∀ b : Bool, (s.inputs.ejectAtBack = false → exec (.ejectAtFwdRising b) s
          = .next (m.setInputs { s.inputs with ejectAtFwd := b }))
        ∧ (s.inputs.ejectAtBack = true → ∃ u, exec .ejectAtBackRising m = .next u
          ∧ exec (.ejectAtFwdRising b) s = .next (u.setInputs { s.inputs with ejectAtFwd := b })))
      ∧ ∃ t, exec .ejectStall s = .next t
        ∧ (s.notices.list.length < 16 →
          s.notices.list ++ [⟨.ejectStall, s.clocks.part, s.openSubject, some s.ejector.strokes⟩] <+: t.notices.list)
        ∧ (s.inputs.ejectAtBack = false → t.cycle = s.cycle ∧ t.timers.stroke = 0
          ∧ t.ejector = { s.ejector with sub := .retracting, fwd := false, stalledMark := true }
          ∧ t.ring.records = s.ring.records.map (fun p =>
            if p.opened then { p with faults := p.faults ||| 512, verdict := false } else p))
        ∧ (s.inputs.ejectAtBack = true → s.ejector.abandonPending = false → t.cycle = s.cycle
          ∧ t.ejector = { s.ejector with sub := .stalled, fwd := false, stalledMark := true })
        ∧ (s.inputs.ejectAtBack = true → s.ejector.abandonPending = true → ended t true 512))
    ∧ (s.cycle.state = .ejecting → s.ejector.sub = .retracting →
      (∃ t, exec .ejectAtBackRising s = .next t ∧ t.inputs = level true ∧ t.scale = s.scale ∧ t.queue = s.queue
        ∧ (if s.ejector.abandonPending ∨ (s.ejector.stalledMark = false ∧ r.strokeCount ≤ s.ejector.strokes) then
            t.ejector = { s.ejector with sub := .idle, fwd := false } ∧ ended t s.ejector.abandonPending 0
          else t.cycle = s.cycle ∧ t.ring = s.ring
            ∧ (if s.ejector.stalledMark then t.ejector = { s.ejector with sub := .stalled }
              else t.ejector = { s.ejector with sub := .extending, fwd := true } ∧ t.timers.stroke = 0)))
      ∧ ∃ t, exec .ejectJam s = .next t ∧ t.ejector = { s.ejector with sub := .jammed }
        ∧ t.ring.records = s.ring.records.map (fun p =>
          if p.opened then { p with faults := p.faults ||| 1024, verdict := false } else p)
        ∧ (s.notices.list.length < 16 → t.notices.list = s.notices.list
          ++ [⟨.ejectJam, s.clocks.part, s.openSubject, some s.ejector.strokes⟩])
        ∧ t = (((s.setEjector t.ejector).setRing t.ring).setNotices t.notices).setTimers t.timers)
    ∧ (s.cycle.state = .ejecting → s.ejector.sub = .jammed → s.ejector.abandonPending = false →
      exec .ejectAtBackRising s
        = .next ((s.setInputs (level true)).setEjector { s.ejector with sub := .stalled }))
    ∧ (s.cycle.state = .ejecting → s.ejector.sub = .jammed → s.ejector.abandonPending = true → ∃ t,
      exec .ejectAtBackRising s = .next t ∧ t.inputs = level true ∧ ended t true 0)
    ∧ (s.cycle.state = .ejecting → s.ejector.sub = .extending ∨ s.ejector.sub = .stalled →
      exec .ejectAtBackRising s = .next (s.setInputs (level true)))
    ∧ (s.cycle.state ≠ .ejecting → exec .ejectAtBackRising s = .next ((s.setInputs (level true)).setCycle
      { s.cycle with closePermit := decide (s.cycle.state = .loading ∧ s.inputs.eStop = false) }))
    ∧ exec .ejectAtBackFalling s = .next ((s.setInputs (level false)).setCycle { s.cycle with closePermit := false })

/-! ## The part record ring (chapter 9) -/

/-- RELEASE PARTS removes the CLOSED records with serials at most the one given and answers how many; the others stay in
their order (R146). SET SERIAL is refused WRONG_STATE with a record OPEN, BAD_VALUE for 0 and for a serial not above the
newest record's, and else sets the next serial (R144). A body of the wrong length is BAD_LENGTH. Between cycles the ready reasons agree with the ring afterwards
(R95, R147). -/
def Obligations.RingCommandsKeepTheSerials : Prop :=
  ∀ (s : State) (guard : Byte) (n : Nat), s.accepts guard → CycleInv s → RingInv s → n < 4294967296 →
    (∀ body : List Byte, body.length ≠ 4 →
      exec (.releaseParts guard body) s = .next (s.answering 0x52 .badLength [])
      ∧ exec (.setSerial guard body) s = .next (s.answering 0x53 .badLength []))
    ∧ (∃ t, exec (.releaseParts guard (be32 n)) s = .next t
      ∧ t.ring = { s.ring with records := s.ring.records.filter (fun p => p.opened || n < p.serial) }
      ∧ t.port.answer = some ⟨0x52, .done, [byte (s.ring.records.length - t.ring.records.length)]⟩
      ∧ Reevaluated s t
      ∧ t = ((s.setRing t.ring).setCycle t.cycle).setPort t.port)
    ∧ (s.cycle.state.running = true → exec (.setSerial guard (be32 n)) s = .next (s.answering 0x53 .wrongState []))
    ∧ (s.cycle.state.running = false → n = 0 ∨ (∃ p ∈ s.ring.records, n ≤ p.serial) →
      exec (.setSerial guard (be32 n)) s = .next (s.answering 0x53 .badValue []))
    ∧ (s.cycle.state.running = false → 0 < n → (∀ p ∈ s.ring.records, p.serial < n) → ∃ t,
      exec (.setSerial guard (be32 n)) s = .next t ∧ t.ring = { s.ring with nextSerial := some n }
      ∧ t.port.answer = some ⟨0x53, .done, be32 n⟩
      ∧ Reevaluated s t
      ∧ t = ((s.setRing t.ring).setCycle t.cycle).setPort t.port)

/-! ## What every step keeps -/

/-- Every step keeps the port and the notice queue sound, and while RESET is held the part in reset with ATTN negated
(R149, R150, R154, R156). -/
def Obligations.EveryStepKeepsTheLineSound : Prop :=
  ∀ s t : State, PortInv s → NoticeInv s → HeldInv s → step s = .next t → PortInv t ∧ NoticeInv t ∧ HeldInv t

/-- Every step keeps every zone and heater sound: OFF exactly while a condition of R26 holds, no output on in OFF or HOT
(R19, R26, R39, R43, R51). -/
def Obligations.EveryStepKeepsTheZonesSound : Prop :=
  ∀ s t : State, HeldInv s → ZoneInv s → step s = .next t → ZoneInv t

/-- Every step keeps the charge scale sound (R59, R74, R75, R76). -/
def Obligations.EveryStepKeepsTheScaleSound : Prop :=
  ∀ s t : State, ScaleInv s → step s = .next t → ScaleInv t

/-- Every step keeps the tool table sound: no two slots hold one number, and a staged recipe waits only in the mounted slot of
a running cycle (R1, R6, R9). -/
def Obligations.EveryStepKeepsTheToolTableSound : Prop :=
  ∀ s t : State, ToolInv s → step s = .next t → ToolInv t

/-- Every step keeps the permits and EJECT_FWD where R99 and R127 have them: CLOSE_PERMIT on exactly in LOADING with
EJECT_AT_BACK asserted and E_STOP negated, OPEN_PERMIT exactly in RELEASE with E_STOP negated, EJECT_FWD exactly in
EXTENDING. -/
def Obligations.EveryStepKeepsThePermits : Prop :=
  ∀ s t : State, HeldInv s → PermitInv s → EjectorInv s → step s = .next t → PermitInv t ∧ EjectorInv t

/-- Every step keeps the cycle controller sound: between cycles the ready reasons are the conditions as they stand, and READY
is the empty set (R93, R94, R95). -/
def Obligations.EveryStepKeepsTheCycleSound : Prop :=
  ∀ s t : State, HeldInv s → CycleInv s → step s = .next t → CycleInv t

/-- Every step keeps the part record ring sound: at most 48 records, serials strictly rising and below the next serial, an
OPEN record only as the newest and exactly in the running states, each verdict true exactly with no fault
(R138, R139, R141). -/
def Obligations.EveryStepKeepsTheRingSound : Prop :=
  ∀ s t : State, CycleInv s → ToolInv s → RingInv s → step s = .next t → RingInv t

/-- Every step keeps the charge queue sound, at most 12 entries, each for a cavity of the mounted tool, and no charge number
held twice (R67, R73, R80, R91). -/
def Obligations.EveryStepKeepsTheChargesSound : Prop :=
  ∀ s t : State, ScaleInv s → RingInv s → QueueInv s → ChargeInv s → step s = .next t → QueueInv t ∧ ChargeInv t

/-- Every step keeps the cure sound: a closed record whose outcome is GOOD has every required dose achieved (R111, R123). -/
def Obligations.EveryStepKeepsTheCureSound : Prop :=
  ∀ s t : State, CycleInv s → RingInv s → CureInv s → step s = .next t → CureInv t

/-- The reset state is sound in every block. -/
def Obligations.TheResetStateIsSound : Prop :=
  PortInv State.reset ∧ NoticeInv State.reset ∧ HeldInv State.reset ∧ ZoneInv State.reset ∧ ScaleInv State.reset ∧ ToolInv State.reset
    ∧ PermitInv State.reset ∧ EjectorInv State.reset ∧ CycleInv State.reset ∧ RingInv State.reset
    ∧ QueueInv State.reset ∧ ChargeInv State.reset ∧ CureInv State.reset
end

