-- ==== Sys2Proof/Laws/State.lean ====
section
/-! SUPPORT. What each update of State does to each field: one lemma for each pair, true by rfl, so that
no proof unfolds a record update. -/

namespace Sys2Proof.Machine

variable (s : State)

/-! ### setTools -/

@[simp] theorem State.setTools_tools (v : Vector (Option Tool) 8) : (s.setTools v).tools = v := rfl
@[simp] theorem State.setTools_rates (v : Vector (Option Tool) 8) : (s.setTools v).rates = s.rates := rfl
@[simp] theorem State.setTools_zones (v : Vector (Option Tool) 8) : (s.setTools v).zones = s.zones := rfl
@[simp] theorem State.setTools_drive (v : Vector (Option Tool) 8) : (s.setTools v).drive = s.drive := rfl
@[simp] theorem State.setTools_heaters (v : Vector (Option Tool) 8) : (s.setTools v).heaters = s.heaters := rfl
@[simp] theorem State.setTools_scale (v : Vector (Option Tool) 8) : (s.setTools v).scale = s.scale := rfl
@[simp] theorem State.setTools_queue (v : Vector (Option Tool) 8) : (s.setTools v).queue = s.queue := rfl
@[simp] theorem State.setTools_cycle (v : Vector (Option Tool) 8) : (s.setTools v).cycle = s.cycle := rfl
@[simp] theorem State.setTools_cure (v : Vector (Option Tool) 8) : (s.setTools v).cure = s.cure := rfl
@[simp] theorem State.setTools_ejector (v : Vector (Option Tool) 8) : (s.setTools v).ejector = s.ejector := rfl
@[simp] theorem State.setTools_ring (v : Vector (Option Tool) 8) : (s.setTools v).ring = s.ring := rfl
@[simp] theorem State.setTools_port (v : Vector (Option Tool) 8) : (s.setTools v).port = s.port := rfl
@[simp] theorem State.setTools_notices (v : Vector (Option Tool) 8) : (s.setTools v).notices = s.notices := rfl
@[simp] theorem State.setTools_clocks (v : Vector (Option Tool) 8) : (s.setTools v).clocks = s.clocks := rfl
@[simp] theorem State.setTools_inputs (v : Vector (Option Tool) 8) : (s.setTools v).inputs = s.inputs := rfl
@[simp] theorem State.setTools_timers (v : Vector (Option Tool) 8) : (s.setTools v).timers = s.timers := rfl
@[simp] theorem State.setTools_draws (v : Vector (Option Tool) 8) : (s.setTools v).draws = s.draws := rfl
@[simp] theorem State.setTools_pending (v : Vector (Option Tool) 8) : (s.setTools v).pending = s.pending := rfl

/-! ### setRates -/

@[simp] theorem State.setRates_tools (v : Vector RateTable 4) : (s.setRates v).tools = s.tools := rfl
@[simp] theorem State.setRates_rates (v : Vector RateTable 4) : (s.setRates v).rates = v := rfl
@[simp] theorem State.setRates_zones (v : Vector RateTable 4) : (s.setRates v).zones = s.zones := rfl
@[simp] theorem State.setRates_drive (v : Vector RateTable 4) : (s.setRates v).drive = s.drive := rfl
@[simp] theorem State.setRates_heaters (v : Vector RateTable 4) : (s.setRates v).heaters = s.heaters := rfl
@[simp] theorem State.setRates_scale (v : Vector RateTable 4) : (s.setRates v).scale = s.scale := rfl
@[simp] theorem State.setRates_queue (v : Vector RateTable 4) : (s.setRates v).queue = s.queue := rfl
@[simp] theorem State.setRates_cycle (v : Vector RateTable 4) : (s.setRates v).cycle = s.cycle := rfl
@[simp] theorem State.setRates_cure (v : Vector RateTable 4) : (s.setRates v).cure = s.cure := rfl
@[simp] theorem State.setRates_ejector (v : Vector RateTable 4) : (s.setRates v).ejector = s.ejector := rfl
@[simp] theorem State.setRates_ring (v : Vector RateTable 4) : (s.setRates v).ring = s.ring := rfl
@[simp] theorem State.setRates_port (v : Vector RateTable 4) : (s.setRates v).port = s.port := rfl
@[simp] theorem State.setRates_notices (v : Vector RateTable 4) : (s.setRates v).notices = s.notices := rfl
@[simp] theorem State.setRates_clocks (v : Vector RateTable 4) : (s.setRates v).clocks = s.clocks := rfl
@[simp] theorem State.setRates_inputs (v : Vector RateTable 4) : (s.setRates v).inputs = s.inputs := rfl
@[simp] theorem State.setRates_timers (v : Vector RateTable 4) : (s.setRates v).timers = s.timers := rfl
@[simp] theorem State.setRates_draws (v : Vector RateTable 4) : (s.setRates v).draws = s.draws := rfl
@[simp] theorem State.setRates_pending (v : Vector RateTable 4) : (s.setRates v).pending = s.pending := rfl

/-! ### setZones -/

@[simp] theorem State.setZones_tools (v : Vector Zone 12) : (s.setZones v).tools = s.tools := rfl
@[simp] theorem State.setZones_rates (v : Vector Zone 12) : (s.setZones v).rates = s.rates := rfl
@[simp] theorem State.setZones_zones (v : Vector Zone 12) : (s.setZones v).zones = v := rfl
@[simp] theorem State.setZones_drive (v : Vector Zone 12) : (s.setZones v).drive = s.drive := rfl
@[simp] theorem State.setZones_heaters (v : Vector Zone 12) : (s.setZones v).heaters = s.heaters := rfl
@[simp] theorem State.setZones_scale (v : Vector Zone 12) : (s.setZones v).scale = s.scale := rfl
@[simp] theorem State.setZones_queue (v : Vector Zone 12) : (s.setZones v).queue = s.queue := rfl
@[simp] theorem State.setZones_cycle (v : Vector Zone 12) : (s.setZones v).cycle = s.cycle := rfl
@[simp] theorem State.setZones_cure (v : Vector Zone 12) : (s.setZones v).cure = s.cure := rfl
@[simp] theorem State.setZones_ejector (v : Vector Zone 12) : (s.setZones v).ejector = s.ejector := rfl
@[simp] theorem State.setZones_ring (v : Vector Zone 12) : (s.setZones v).ring = s.ring := rfl
@[simp] theorem State.setZones_port (v : Vector Zone 12) : (s.setZones v).port = s.port := rfl
@[simp] theorem State.setZones_notices (v : Vector Zone 12) : (s.setZones v).notices = s.notices := rfl
@[simp] theorem State.setZones_clocks (v : Vector Zone 12) : (s.setZones v).clocks = s.clocks := rfl
@[simp] theorem State.setZones_inputs (v : Vector Zone 12) : (s.setZones v).inputs = s.inputs := rfl
@[simp] theorem State.setZones_timers (v : Vector Zone 12) : (s.setZones v).timers = s.timers := rfl
@[simp] theorem State.setZones_draws (v : Vector Zone 12) : (s.setZones v).draws = s.draws := rfl
@[simp] theorem State.setZones_pending (v : Vector Zone 12) : (s.setZones v).pending = s.pending := rfl

/-! ### setDrive -/

@[simp] theorem State.setDrive_tools (v : Drive) : (s.setDrive v).tools = s.tools := rfl
@[simp] theorem State.setDrive_rates (v : Drive) : (s.setDrive v).rates = s.rates := rfl
@[simp] theorem State.setDrive_zones (v : Drive) : (s.setDrive v).zones = s.zones := rfl
@[simp] theorem State.setDrive_drive (v : Drive) : (s.setDrive v).drive = v := rfl
@[simp] theorem State.setDrive_heaters (v : Drive) : (s.setDrive v).heaters = s.heaters := rfl
@[simp] theorem State.setDrive_scale (v : Drive) : (s.setDrive v).scale = s.scale := rfl
@[simp] theorem State.setDrive_queue (v : Drive) : (s.setDrive v).queue = s.queue := rfl
@[simp] theorem State.setDrive_cycle (v : Drive) : (s.setDrive v).cycle = s.cycle := rfl
@[simp] theorem State.setDrive_cure (v : Drive) : (s.setDrive v).cure = s.cure := rfl
@[simp] theorem State.setDrive_ejector (v : Drive) : (s.setDrive v).ejector = s.ejector := rfl
@[simp] theorem State.setDrive_ring (v : Drive) : (s.setDrive v).ring = s.ring := rfl
@[simp] theorem State.setDrive_port (v : Drive) : (s.setDrive v).port = s.port := rfl
@[simp] theorem State.setDrive_notices (v : Drive) : (s.setDrive v).notices = s.notices := rfl
@[simp] theorem State.setDrive_clocks (v : Drive) : (s.setDrive v).clocks = s.clocks := rfl
@[simp] theorem State.setDrive_inputs (v : Drive) : (s.setDrive v).inputs = s.inputs := rfl
@[simp] theorem State.setDrive_timers (v : Drive) : (s.setDrive v).timers = s.timers := rfl
@[simp] theorem State.setDrive_draws (v : Drive) : (s.setDrive v).draws = s.draws := rfl
@[simp] theorem State.setDrive_pending (v : Drive) : (s.setDrive v).pending = s.pending := rfl

/-! ### setHeaters -/

@[simp] theorem State.setHeaters_tools (v : Vector Heater 12) : (s.setHeaters v).tools = s.tools := rfl
@[simp] theorem State.setHeaters_rates (v : Vector Heater 12) : (s.setHeaters v).rates = s.rates := rfl
@[simp] theorem State.setHeaters_zones (v : Vector Heater 12) : (s.setHeaters v).zones = s.zones := rfl
@[simp] theorem State.setHeaters_drive (v : Vector Heater 12) : (s.setHeaters v).drive = s.drive := rfl
@[simp] theorem State.setHeaters_heaters (v : Vector Heater 12) : (s.setHeaters v).heaters = v := rfl
@[simp] theorem State.setHeaters_scale (v : Vector Heater 12) : (s.setHeaters v).scale = s.scale := rfl
@[simp] theorem State.setHeaters_queue (v : Vector Heater 12) : (s.setHeaters v).queue = s.queue := rfl
@[simp] theorem State.setHeaters_cycle (v : Vector Heater 12) : (s.setHeaters v).cycle = s.cycle := rfl
@[simp] theorem State.setHeaters_cure (v : Vector Heater 12) : (s.setHeaters v).cure = s.cure := rfl
@[simp] theorem State.setHeaters_ejector (v : Vector Heater 12) : (s.setHeaters v).ejector = s.ejector := rfl
@[simp] theorem State.setHeaters_ring (v : Vector Heater 12) : (s.setHeaters v).ring = s.ring := rfl
@[simp] theorem State.setHeaters_port (v : Vector Heater 12) : (s.setHeaters v).port = s.port := rfl
@[simp] theorem State.setHeaters_notices (v : Vector Heater 12) : (s.setHeaters v).notices = s.notices := rfl
@[simp] theorem State.setHeaters_clocks (v : Vector Heater 12) : (s.setHeaters v).clocks = s.clocks := rfl
@[simp] theorem State.setHeaters_inputs (v : Vector Heater 12) : (s.setHeaters v).inputs = s.inputs := rfl
@[simp] theorem State.setHeaters_timers (v : Vector Heater 12) : (s.setHeaters v).timers = s.timers := rfl
@[simp] theorem State.setHeaters_draws (v : Vector Heater 12) : (s.setHeaters v).draws = s.draws := rfl
@[simp] theorem State.setHeaters_pending (v : Vector Heater 12) : (s.setHeaters v).pending = s.pending := rfl

/-! ### setScale -/

@[simp] theorem State.setScale_tools (v : Scale) : (s.setScale v).tools = s.tools := rfl
@[simp] theorem State.setScale_rates (v : Scale) : (s.setScale v).rates = s.rates := rfl
@[simp] theorem State.setScale_zones (v : Scale) : (s.setScale v).zones = s.zones := rfl
@[simp] theorem State.setScale_drive (v : Scale) : (s.setScale v).drive = s.drive := rfl
@[simp] theorem State.setScale_heaters (v : Scale) : (s.setScale v).heaters = s.heaters := rfl
@[simp] theorem State.setScale_scale (v : Scale) : (s.setScale v).scale = v := rfl
@[simp] theorem State.setScale_queue (v : Scale) : (s.setScale v).queue = s.queue := rfl
@[simp] theorem State.setScale_cycle (v : Scale) : (s.setScale v).cycle = s.cycle := rfl
@[simp] theorem State.setScale_cure (v : Scale) : (s.setScale v).cure = s.cure := rfl
@[simp] theorem State.setScale_ejector (v : Scale) : (s.setScale v).ejector = s.ejector := rfl
@[simp] theorem State.setScale_ring (v : Scale) : (s.setScale v).ring = s.ring := rfl
@[simp] theorem State.setScale_port (v : Scale) : (s.setScale v).port = s.port := rfl
@[simp] theorem State.setScale_notices (v : Scale) : (s.setScale v).notices = s.notices := rfl
@[simp] theorem State.setScale_clocks (v : Scale) : (s.setScale v).clocks = s.clocks := rfl
@[simp] theorem State.setScale_inputs (v : Scale) : (s.setScale v).inputs = s.inputs := rfl
@[simp] theorem State.setScale_timers (v : Scale) : (s.setScale v).timers = s.timers := rfl
@[simp] theorem State.setScale_draws (v : Scale) : (s.setScale v).draws = s.draws := rfl
@[simp] theorem State.setScale_pending (v : Scale) : (s.setScale v).pending = s.pending := rfl

/-! ### setQueue -/

@[simp] theorem State.setQueue_tools (v : List ChargeEntry) : (s.setQueue v).tools = s.tools := rfl
@[simp] theorem State.setQueue_rates (v : List ChargeEntry) : (s.setQueue v).rates = s.rates := rfl
@[simp] theorem State.setQueue_zones (v : List ChargeEntry) : (s.setQueue v).zones = s.zones := rfl
@[simp] theorem State.setQueue_drive (v : List ChargeEntry) : (s.setQueue v).drive = s.drive := rfl
@[simp] theorem State.setQueue_heaters (v : List ChargeEntry) : (s.setQueue v).heaters = s.heaters := rfl
@[simp] theorem State.setQueue_scale (v : List ChargeEntry) : (s.setQueue v).scale = s.scale := rfl
@[simp] theorem State.setQueue_queue (v : List ChargeEntry) : (s.setQueue v).queue = v := rfl
@[simp] theorem State.setQueue_cycle (v : List ChargeEntry) : (s.setQueue v).cycle = s.cycle := rfl
@[simp] theorem State.setQueue_cure (v : List ChargeEntry) : (s.setQueue v).cure = s.cure := rfl
@[simp] theorem State.setQueue_ejector (v : List ChargeEntry) : (s.setQueue v).ejector = s.ejector := rfl
@[simp] theorem State.setQueue_ring (v : List ChargeEntry) : (s.setQueue v).ring = s.ring := rfl
@[simp] theorem State.setQueue_port (v : List ChargeEntry) : (s.setQueue v).port = s.port := rfl
@[simp] theorem State.setQueue_notices (v : List ChargeEntry) : (s.setQueue v).notices = s.notices := rfl
@[simp] theorem State.setQueue_clocks (v : List ChargeEntry) : (s.setQueue v).clocks = s.clocks := rfl
@[simp] theorem State.setQueue_inputs (v : List ChargeEntry) : (s.setQueue v).inputs = s.inputs := rfl
@[simp] theorem State.setQueue_timers (v : List ChargeEntry) : (s.setQueue v).timers = s.timers := rfl
@[simp] theorem State.setQueue_draws (v : List ChargeEntry) : (s.setQueue v).draws = s.draws := rfl
@[simp] theorem State.setQueue_pending (v : List ChargeEntry) : (s.setQueue v).pending = s.pending := rfl

/-! ### setCycle -/

@[simp] theorem State.setCycle_tools (v : Cycle) : (s.setCycle v).tools = s.tools := rfl
@[simp] theorem State.setCycle_rates (v : Cycle) : (s.setCycle v).rates = s.rates := rfl
@[simp] theorem State.setCycle_zones (v : Cycle) : (s.setCycle v).zones = s.zones := rfl
@[simp] theorem State.setCycle_drive (v : Cycle) : (s.setCycle v).drive = s.drive := rfl
@[simp] theorem State.setCycle_heaters (v : Cycle) : (s.setCycle v).heaters = s.heaters := rfl
@[simp] theorem State.setCycle_scale (v : Cycle) : (s.setCycle v).scale = s.scale := rfl
@[simp] theorem State.setCycle_queue (v : Cycle) : (s.setCycle v).queue = s.queue := rfl
@[simp] theorem State.setCycle_cycle (v : Cycle) : (s.setCycle v).cycle = v := rfl
@[simp] theorem State.setCycle_cure (v : Cycle) : (s.setCycle v).cure = s.cure := rfl
@[simp] theorem State.setCycle_ejector (v : Cycle) : (s.setCycle v).ejector = s.ejector := rfl
@[simp] theorem State.setCycle_ring (v : Cycle) : (s.setCycle v).ring = s.ring := rfl
@[simp] theorem State.setCycle_port (v : Cycle) : (s.setCycle v).port = s.port := rfl
@[simp] theorem State.setCycle_notices (v : Cycle) : (s.setCycle v).notices = s.notices := rfl
@[simp] theorem State.setCycle_clocks (v : Cycle) : (s.setCycle v).clocks = s.clocks := rfl
@[simp] theorem State.setCycle_inputs (v : Cycle) : (s.setCycle v).inputs = s.inputs := rfl
@[simp] theorem State.setCycle_timers (v : Cycle) : (s.setCycle v).timers = s.timers := rfl
@[simp] theorem State.setCycle_draws (v : Cycle) : (s.setCycle v).draws = s.draws := rfl
@[simp] theorem State.setCycle_pending (v : Cycle) : (s.setCycle v).pending = s.pending := rfl

/-! ### setCure -/

@[simp] theorem State.setCure_tools (v : Cure) : (s.setCure v).tools = s.tools := rfl
@[simp] theorem State.setCure_rates (v : Cure) : (s.setCure v).rates = s.rates := rfl
@[simp] theorem State.setCure_zones (v : Cure) : (s.setCure v).zones = s.zones := rfl
@[simp] theorem State.setCure_drive (v : Cure) : (s.setCure v).drive = s.drive := rfl
@[simp] theorem State.setCure_heaters (v : Cure) : (s.setCure v).heaters = s.heaters := rfl
@[simp] theorem State.setCure_scale (v : Cure) : (s.setCure v).scale = s.scale := rfl
@[simp] theorem State.setCure_queue (v : Cure) : (s.setCure v).queue = s.queue := rfl
@[simp] theorem State.setCure_cycle (v : Cure) : (s.setCure v).cycle = s.cycle := rfl
@[simp] theorem State.setCure_cure (v : Cure) : (s.setCure v).cure = v := rfl
@[simp] theorem State.setCure_ejector (v : Cure) : (s.setCure v).ejector = s.ejector := rfl
@[simp] theorem State.setCure_ring (v : Cure) : (s.setCure v).ring = s.ring := rfl
@[simp] theorem State.setCure_port (v : Cure) : (s.setCure v).port = s.port := rfl
@[simp] theorem State.setCure_notices (v : Cure) : (s.setCure v).notices = s.notices := rfl
@[simp] theorem State.setCure_clocks (v : Cure) : (s.setCure v).clocks = s.clocks := rfl
@[simp] theorem State.setCure_inputs (v : Cure) : (s.setCure v).inputs = s.inputs := rfl
@[simp] theorem State.setCure_timers (v : Cure) : (s.setCure v).timers = s.timers := rfl
@[simp] theorem State.setCure_draws (v : Cure) : (s.setCure v).draws = s.draws := rfl
@[simp] theorem State.setCure_pending (v : Cure) : (s.setCure v).pending = s.pending := rfl

/-! ### setEjector -/

@[simp] theorem State.setEjector_tools (v : Ejector) : (s.setEjector v).tools = s.tools := rfl
@[simp] theorem State.setEjector_rates (v : Ejector) : (s.setEjector v).rates = s.rates := rfl
@[simp] theorem State.setEjector_zones (v : Ejector) : (s.setEjector v).zones = s.zones := rfl
@[simp] theorem State.setEjector_drive (v : Ejector) : (s.setEjector v).drive = s.drive := rfl
@[simp] theorem State.setEjector_heaters (v : Ejector) : (s.setEjector v).heaters = s.heaters := rfl
@[simp] theorem State.setEjector_scale (v : Ejector) : (s.setEjector v).scale = s.scale := rfl
@[simp] theorem State.setEjector_queue (v : Ejector) : (s.setEjector v).queue = s.queue := rfl
@[simp] theorem State.setEjector_cycle (v : Ejector) : (s.setEjector v).cycle = s.cycle := rfl
@[simp] theorem State.setEjector_cure (v : Ejector) : (s.setEjector v).cure = s.cure := rfl
@[simp] theorem State.setEjector_ejector (v : Ejector) : (s.setEjector v).ejector = v := rfl
@[simp] theorem State.setEjector_ring (v : Ejector) : (s.setEjector v).ring = s.ring := rfl
@[simp] theorem State.setEjector_port (v : Ejector) : (s.setEjector v).port = s.port := rfl
@[simp] theorem State.setEjector_notices (v : Ejector) : (s.setEjector v).notices = s.notices := rfl
@[simp] theorem State.setEjector_clocks (v : Ejector) : (s.setEjector v).clocks = s.clocks := rfl
@[simp] theorem State.setEjector_inputs (v : Ejector) : (s.setEjector v).inputs = s.inputs := rfl
@[simp] theorem State.setEjector_timers (v : Ejector) : (s.setEjector v).timers = s.timers := rfl
@[simp] theorem State.setEjector_draws (v : Ejector) : (s.setEjector v).draws = s.draws := rfl
@[simp] theorem State.setEjector_pending (v : Ejector) : (s.setEjector v).pending = s.pending := rfl

/-! ### setRing -/

@[simp] theorem State.setRing_tools (v : Ring) : (s.setRing v).tools = s.tools := rfl
@[simp] theorem State.setRing_rates (v : Ring) : (s.setRing v).rates = s.rates := rfl
@[simp] theorem State.setRing_zones (v : Ring) : (s.setRing v).zones = s.zones := rfl
@[simp] theorem State.setRing_drive (v : Ring) : (s.setRing v).drive = s.drive := rfl
@[simp] theorem State.setRing_heaters (v : Ring) : (s.setRing v).heaters = s.heaters := rfl
@[simp] theorem State.setRing_scale (v : Ring) : (s.setRing v).scale = s.scale := rfl
@[simp] theorem State.setRing_queue (v : Ring) : (s.setRing v).queue = s.queue := rfl
@[simp] theorem State.setRing_cycle (v : Ring) : (s.setRing v).cycle = s.cycle := rfl
@[simp] theorem State.setRing_cure (v : Ring) : (s.setRing v).cure = s.cure := rfl
@[simp] theorem State.setRing_ejector (v : Ring) : (s.setRing v).ejector = s.ejector := rfl
@[simp] theorem State.setRing_ring (v : Ring) : (s.setRing v).ring = v := rfl
@[simp] theorem State.setRing_port (v : Ring) : (s.setRing v).port = s.port := rfl
@[simp] theorem State.setRing_notices (v : Ring) : (s.setRing v).notices = s.notices := rfl
@[simp] theorem State.setRing_clocks (v : Ring) : (s.setRing v).clocks = s.clocks := rfl
@[simp] theorem State.setRing_inputs (v : Ring) : (s.setRing v).inputs = s.inputs := rfl
@[simp] theorem State.setRing_timers (v : Ring) : (s.setRing v).timers = s.timers := rfl
@[simp] theorem State.setRing_draws (v : Ring) : (s.setRing v).draws = s.draws := rfl
@[simp] theorem State.setRing_pending (v : Ring) : (s.setRing v).pending = s.pending := rfl

/-! ### setPort -/

@[simp] theorem State.setPort_tools (v : Port) : (s.setPort v).tools = s.tools := rfl
@[simp] theorem State.setPort_rates (v : Port) : (s.setPort v).rates = s.rates := rfl
@[simp] theorem State.setPort_zones (v : Port) : (s.setPort v).zones = s.zones := rfl
@[simp] theorem State.setPort_drive (v : Port) : (s.setPort v).drive = s.drive := rfl
@[simp] theorem State.setPort_heaters (v : Port) : (s.setPort v).heaters = s.heaters := rfl
@[simp] theorem State.setPort_scale (v : Port) : (s.setPort v).scale = s.scale := rfl
@[simp] theorem State.setPort_queue (v : Port) : (s.setPort v).queue = s.queue := rfl
@[simp] theorem State.setPort_cycle (v : Port) : (s.setPort v).cycle = s.cycle := rfl
@[simp] theorem State.setPort_cure (v : Port) : (s.setPort v).cure = s.cure := rfl
@[simp] theorem State.setPort_ejector (v : Port) : (s.setPort v).ejector = s.ejector := rfl
@[simp] theorem State.setPort_ring (v : Port) : (s.setPort v).ring = s.ring := rfl
@[simp] theorem State.setPort_port (v : Port) : (s.setPort v).port = v := rfl
@[simp] theorem State.setPort_notices (v : Port) : (s.setPort v).notices = s.notices := rfl
@[simp] theorem State.setPort_clocks (v : Port) : (s.setPort v).clocks = s.clocks := rfl
@[simp] theorem State.setPort_inputs (v : Port) : (s.setPort v).inputs = s.inputs := rfl
@[simp] theorem State.setPort_timers (v : Port) : (s.setPort v).timers = s.timers := rfl
@[simp] theorem State.setPort_draws (v : Port) : (s.setPort v).draws = s.draws := rfl
@[simp] theorem State.setPort_pending (v : Port) : (s.setPort v).pending = s.pending := rfl

/-! ### setNotices -/

@[simp] theorem State.setNotices_tools (v : NoticeQueue) : (s.setNotices v).tools = s.tools := rfl
@[simp] theorem State.setNotices_rates (v : NoticeQueue) : (s.setNotices v).rates = s.rates := rfl
@[simp] theorem State.setNotices_zones (v : NoticeQueue) : (s.setNotices v).zones = s.zones := rfl
@[simp] theorem State.setNotices_drive (v : NoticeQueue) : (s.setNotices v).drive = s.drive := rfl
@[simp] theorem State.setNotices_heaters (v : NoticeQueue) : (s.setNotices v).heaters = s.heaters := rfl
@[simp] theorem State.setNotices_scale (v : NoticeQueue) : (s.setNotices v).scale = s.scale := rfl
@[simp] theorem State.setNotices_queue (v : NoticeQueue) : (s.setNotices v).queue = s.queue := rfl
@[simp] theorem State.setNotices_cycle (v : NoticeQueue) : (s.setNotices v).cycle = s.cycle := rfl
@[simp] theorem State.setNotices_cure (v : NoticeQueue) : (s.setNotices v).cure = s.cure := rfl
@[simp] theorem State.setNotices_ejector (v : NoticeQueue) : (s.setNotices v).ejector = s.ejector := rfl
@[simp] theorem State.setNotices_ring (v : NoticeQueue) : (s.setNotices v).ring = s.ring := rfl
@[simp] theorem State.setNotices_port (v : NoticeQueue) : (s.setNotices v).port = s.port := rfl
@[simp] theorem State.setNotices_notices (v : NoticeQueue) : (s.setNotices v).notices = v := rfl
@[simp] theorem State.setNotices_clocks (v : NoticeQueue) : (s.setNotices v).clocks = s.clocks := rfl
@[simp] theorem State.setNotices_inputs (v : NoticeQueue) : (s.setNotices v).inputs = s.inputs := rfl
@[simp] theorem State.setNotices_timers (v : NoticeQueue) : (s.setNotices v).timers = s.timers := rfl
@[simp] theorem State.setNotices_draws (v : NoticeQueue) : (s.setNotices v).draws = s.draws := rfl
@[simp] theorem State.setNotices_pending (v : NoticeQueue) : (s.setNotices v).pending = s.pending := rfl

/-! ### setClocks -/

@[simp] theorem State.setClocks_tools (v : Clocks) : (s.setClocks v).tools = s.tools := rfl
@[simp] theorem State.setClocks_rates (v : Clocks) : (s.setClocks v).rates = s.rates := rfl
@[simp] theorem State.setClocks_zones (v : Clocks) : (s.setClocks v).zones = s.zones := rfl
@[simp] theorem State.setClocks_drive (v : Clocks) : (s.setClocks v).drive = s.drive := rfl
@[simp] theorem State.setClocks_heaters (v : Clocks) : (s.setClocks v).heaters = s.heaters := rfl
@[simp] theorem State.setClocks_scale (v : Clocks) : (s.setClocks v).scale = s.scale := rfl
@[simp] theorem State.setClocks_queue (v : Clocks) : (s.setClocks v).queue = s.queue := rfl
@[simp] theorem State.setClocks_cycle (v : Clocks) : (s.setClocks v).cycle = s.cycle := rfl
@[simp] theorem State.setClocks_cure (v : Clocks) : (s.setClocks v).cure = s.cure := rfl
@[simp] theorem State.setClocks_ejector (v : Clocks) : (s.setClocks v).ejector = s.ejector := rfl
@[simp] theorem State.setClocks_ring (v : Clocks) : (s.setClocks v).ring = s.ring := rfl
@[simp] theorem State.setClocks_port (v : Clocks) : (s.setClocks v).port = s.port := rfl
@[simp] theorem State.setClocks_notices (v : Clocks) : (s.setClocks v).notices = s.notices := rfl
@[simp] theorem State.setClocks_clocks (v : Clocks) : (s.setClocks v).clocks = v := rfl
@[simp] theorem State.setClocks_inputs (v : Clocks) : (s.setClocks v).inputs = s.inputs := rfl
@[simp] theorem State.setClocks_timers (v : Clocks) : (s.setClocks v).timers = s.timers := rfl
@[simp] theorem State.setClocks_draws (v : Clocks) : (s.setClocks v).draws = s.draws := rfl
@[simp] theorem State.setClocks_pending (v : Clocks) : (s.setClocks v).pending = s.pending := rfl

/-! ### setInputs -/

@[simp] theorem State.setInputs_tools (v : Inputs) : (s.setInputs v).tools = s.tools := rfl
@[simp] theorem State.setInputs_rates (v : Inputs) : (s.setInputs v).rates = s.rates := rfl
@[simp] theorem State.setInputs_zones (v : Inputs) : (s.setInputs v).zones = s.zones := rfl
@[simp] theorem State.setInputs_drive (v : Inputs) : (s.setInputs v).drive = s.drive := rfl
@[simp] theorem State.setInputs_heaters (v : Inputs) : (s.setInputs v).heaters = s.heaters := rfl
@[simp] theorem State.setInputs_scale (v : Inputs) : (s.setInputs v).scale = s.scale := rfl
@[simp] theorem State.setInputs_queue (v : Inputs) : (s.setInputs v).queue = s.queue := rfl
@[simp] theorem State.setInputs_cycle (v : Inputs) : (s.setInputs v).cycle = s.cycle := rfl
@[simp] theorem State.setInputs_cure (v : Inputs) : (s.setInputs v).cure = s.cure := rfl
@[simp] theorem State.setInputs_ejector (v : Inputs) : (s.setInputs v).ejector = s.ejector := rfl
@[simp] theorem State.setInputs_ring (v : Inputs) : (s.setInputs v).ring = s.ring := rfl
@[simp] theorem State.setInputs_port (v : Inputs) : (s.setInputs v).port = s.port := rfl
@[simp] theorem State.setInputs_notices (v : Inputs) : (s.setInputs v).notices = s.notices := rfl
@[simp] theorem State.setInputs_clocks (v : Inputs) : (s.setInputs v).clocks = s.clocks := rfl
@[simp] theorem State.setInputs_inputs (v : Inputs) : (s.setInputs v).inputs = v := rfl
@[simp] theorem State.setInputs_timers (v : Inputs) : (s.setInputs v).timers = s.timers := rfl
@[simp] theorem State.setInputs_draws (v : Inputs) : (s.setInputs v).draws = s.draws := rfl
@[simp] theorem State.setInputs_pending (v : Inputs) : (s.setInputs v).pending = s.pending := rfl

/-! ### setTimers -/

@[simp] theorem State.setTimers_tools (v : Timers) : (s.setTimers v).tools = s.tools := rfl
@[simp] theorem State.setTimers_rates (v : Timers) : (s.setTimers v).rates = s.rates := rfl
@[simp] theorem State.setTimers_zones (v : Timers) : (s.setTimers v).zones = s.zones := rfl
@[simp] theorem State.setTimers_drive (v : Timers) : (s.setTimers v).drive = s.drive := rfl
@[simp] theorem State.setTimers_heaters (v : Timers) : (s.setTimers v).heaters = s.heaters := rfl
@[simp] theorem State.setTimers_scale (v : Timers) : (s.setTimers v).scale = s.scale := rfl
@[simp] theorem State.setTimers_queue (v : Timers) : (s.setTimers v).queue = s.queue := rfl
@[simp] theorem State.setTimers_cycle (v : Timers) : (s.setTimers v).cycle = s.cycle := rfl
@[simp] theorem State.setTimers_cure (v : Timers) : (s.setTimers v).cure = s.cure := rfl
@[simp] theorem State.setTimers_ejector (v : Timers) : (s.setTimers v).ejector = s.ejector := rfl
@[simp] theorem State.setTimers_ring (v : Timers) : (s.setTimers v).ring = s.ring := rfl
@[simp] theorem State.setTimers_port (v : Timers) : (s.setTimers v).port = s.port := rfl
@[simp] theorem State.setTimers_notices (v : Timers) : (s.setTimers v).notices = s.notices := rfl
@[simp] theorem State.setTimers_clocks (v : Timers) : (s.setTimers v).clocks = s.clocks := rfl
@[simp] theorem State.setTimers_inputs (v : Timers) : (s.setTimers v).inputs = s.inputs := rfl
@[simp] theorem State.setTimers_timers (v : Timers) : (s.setTimers v).timers = v := rfl
@[simp] theorem State.setTimers_draws (v : Timers) : (s.setTimers v).draws = s.draws := rfl
@[simp] theorem State.setTimers_pending (v : Timers) : (s.setTimers v).pending = s.pending := rfl

/-! ### setDraws -/

@[simp] theorem State.setDraws_tools (v : Nat) : (s.setDraws v).tools = s.tools := rfl
@[simp] theorem State.setDraws_rates (v : Nat) : (s.setDraws v).rates = s.rates := rfl
@[simp] theorem State.setDraws_zones (v : Nat) : (s.setDraws v).zones = s.zones := rfl
@[simp] theorem State.setDraws_drive (v : Nat) : (s.setDraws v).drive = s.drive := rfl
@[simp] theorem State.setDraws_heaters (v : Nat) : (s.setDraws v).heaters = s.heaters := rfl
@[simp] theorem State.setDraws_scale (v : Nat) : (s.setDraws v).scale = s.scale := rfl
@[simp] theorem State.setDraws_queue (v : Nat) : (s.setDraws v).queue = s.queue := rfl
@[simp] theorem State.setDraws_cycle (v : Nat) : (s.setDraws v).cycle = s.cycle := rfl
@[simp] theorem State.setDraws_cure (v : Nat) : (s.setDraws v).cure = s.cure := rfl
@[simp] theorem State.setDraws_ejector (v : Nat) : (s.setDraws v).ejector = s.ejector := rfl
@[simp] theorem State.setDraws_ring (v : Nat) : (s.setDraws v).ring = s.ring := rfl
@[simp] theorem State.setDraws_port (v : Nat) : (s.setDraws v).port = s.port := rfl
@[simp] theorem State.setDraws_notices (v : Nat) : (s.setDraws v).notices = s.notices := rfl
@[simp] theorem State.setDraws_clocks (v : Nat) : (s.setDraws v).clocks = s.clocks := rfl
@[simp] theorem State.setDraws_inputs (v : Nat) : (s.setDraws v).inputs = s.inputs := rfl
@[simp] theorem State.setDraws_timers (v : Nat) : (s.setDraws v).timers = s.timers := rfl
@[simp] theorem State.setDraws_draws (v : Nat) : (s.setDraws v).draws = v := rfl
@[simp] theorem State.setDraws_pending (v : Nat) : (s.setDraws v).pending = s.pending := rfl

/-! ### setPending -/

@[simp] theorem State.setPending_tools (v : List Instr) : (s.setPending v).tools = s.tools := rfl
@[simp] theorem State.setPending_rates (v : List Instr) : (s.setPending v).rates = s.rates := rfl
@[simp] theorem State.setPending_zones (v : List Instr) : (s.setPending v).zones = s.zones := rfl
@[simp] theorem State.setPending_drive (v : List Instr) : (s.setPending v).drive = s.drive := rfl
@[simp] theorem State.setPending_heaters (v : List Instr) : (s.setPending v).heaters = s.heaters := rfl
@[simp] theorem State.setPending_scale (v : List Instr) : (s.setPending v).scale = s.scale := rfl
@[simp] theorem State.setPending_queue (v : List Instr) : (s.setPending v).queue = s.queue := rfl
@[simp] theorem State.setPending_cycle (v : List Instr) : (s.setPending v).cycle = s.cycle := rfl
@[simp] theorem State.setPending_cure (v : List Instr) : (s.setPending v).cure = s.cure := rfl
@[simp] theorem State.setPending_ejector (v : List Instr) : (s.setPending v).ejector = s.ejector := rfl
@[simp] theorem State.setPending_ring (v : List Instr) : (s.setPending v).ring = s.ring := rfl
@[simp] theorem State.setPending_port (v : List Instr) : (s.setPending v).port = s.port := rfl
@[simp] theorem State.setPending_notices (v : List Instr) : (s.setPending v).notices = s.notices := rfl
@[simp] theorem State.setPending_clocks (v : List Instr) : (s.setPending v).clocks = s.clocks := rfl
@[simp] theorem State.setPending_inputs (v : List Instr) : (s.setPending v).inputs = s.inputs := rfl
@[simp] theorem State.setPending_timers (v : List Instr) : (s.setPending v).timers = s.timers := rfl
@[simp] theorem State.setPending_draws (v : List Instr) : (s.setPending v).draws = s.draws := rfl
@[simp] theorem State.setPending_pending (v : List Instr) : (s.setPending v).pending = v := rfl

/-! ### An update of an update, and an update to what was there -/

@[simp] theorem State.setTools_setTools (v w : Vector (Option Tool) 8) : (s.setTools v).setTools w = s.setTools w := rfl
@[simp] theorem State.setTools_self : s.setTools s.tools = s := rfl
@[simp] theorem State.setRates_setRates (v w : Vector RateTable 4) : (s.setRates v).setRates w = s.setRates w := rfl
@[simp] theorem State.setRates_self : s.setRates s.rates = s := rfl
@[simp] theorem State.setZones_setZones (v w : Vector Zone 12) : (s.setZones v).setZones w = s.setZones w := rfl
@[simp] theorem State.setZones_self : s.setZones s.zones = s := rfl
@[simp] theorem State.setDrive_setDrive (v w : Drive) : (s.setDrive v).setDrive w = s.setDrive w := rfl
@[simp] theorem State.setDrive_self : s.setDrive s.drive = s := rfl
@[simp] theorem State.setHeaters_setHeaters (v w : Vector Heater 12) : (s.setHeaters v).setHeaters w = s.setHeaters w := rfl
@[simp] theorem State.setHeaters_self : s.setHeaters s.heaters = s := rfl
@[simp] theorem State.setScale_setScale (v w : Scale) : (s.setScale v).setScale w = s.setScale w := rfl
@[simp] theorem State.setScale_self : s.setScale s.scale = s := rfl
@[simp] theorem State.setQueue_setQueue (v w : List ChargeEntry) : (s.setQueue v).setQueue w = s.setQueue w := rfl
@[simp] theorem State.setQueue_self : s.setQueue s.queue = s := rfl
@[simp] theorem State.setCycle_setCycle (v w : Cycle) : (s.setCycle v).setCycle w = s.setCycle w := rfl
@[simp] theorem State.setCycle_self : s.setCycle s.cycle = s := rfl
@[simp] theorem State.setCure_setCure (v w : Cure) : (s.setCure v).setCure w = s.setCure w := rfl
@[simp] theorem State.setCure_self : s.setCure s.cure = s := rfl
@[simp] theorem State.setEjector_setEjector (v w : Ejector) : (s.setEjector v).setEjector w = s.setEjector w := rfl
@[simp] theorem State.setEjector_self : s.setEjector s.ejector = s := rfl
@[simp] theorem State.setRing_setRing (v w : Ring) : (s.setRing v).setRing w = s.setRing w := rfl
@[simp] theorem State.setRing_self : s.setRing s.ring = s := rfl
@[simp] theorem State.setPort_setPort (v w : Port) : (s.setPort v).setPort w = s.setPort w := rfl
@[simp] theorem State.setPort_self : s.setPort s.port = s := rfl
@[simp] theorem State.setNotices_setNotices (v w : NoticeQueue) : (s.setNotices v).setNotices w = s.setNotices w := rfl
@[simp] theorem State.setNotices_self : s.setNotices s.notices = s := rfl
@[simp] theorem State.setClocks_setClocks (v w : Clocks) : (s.setClocks v).setClocks w = s.setClocks w := rfl
@[simp] theorem State.setClocks_self : s.setClocks s.clocks = s := rfl
@[simp] theorem State.setInputs_setInputs (v w : Inputs) : (s.setInputs v).setInputs w = s.setInputs w := rfl
@[simp] theorem State.setInputs_self : s.setInputs s.inputs = s := rfl
@[simp] theorem State.setTimers_setTimers (v w : Timers) : (s.setTimers v).setTimers w = s.setTimers w := rfl
@[simp] theorem State.setTimers_self : s.setTimers s.timers = s := rfl
@[simp] theorem State.setDraws_setDraws (v w : Nat) : (s.setDraws v).setDraws w = s.setDraws w := rfl
@[simp] theorem State.setDraws_self : s.setDraws s.draws = s := rfl
@[simp] theorem State.setPending_setPending (v w : List Instr) : (s.setPending v).setPending w = s.setPending w := rfl
@[simp] theorem State.setPending_self : s.setPending s.pending = s := rfl

end Sys2Proof.Machine
end

