-- ==== Sys2Proof/Laws/Frames.lean ====
section
/-! SUPPORT. The frame of each shared operation: the fields it leaves alone, one lemma for each field,
tagged @[simp], so that no proof unfolds an operation to learn what it did not touch. -/

namespace Sys2Proof.Machine

variable (s : State)

/-- Posting a zone's notices changes the notice queue and nothing else. -/
theorem State.postZone_spec (z : ZoneIx) (l : List (NoticeKind × Option Int)) :
    ∃ q, s.postZone z l = s.setNotices q := by
  unfold State.postZone
  induction l generalizing s with
  | nil => exact ⟨s.notices, rfl⟩
  | cons p l ih =>
    obtain ⟨q, h⟩ := ih (s.post p.1 (.zone z.number) p.2)
    exact ⟨q, by simpa [State.post] using h⟩

/-- Posting the notices of several zones changes the notice queue and nothing else. -/
theorem State.postZones_spec (l : List (ZoneIx × List (NoticeKind × Option Int))) :
    ∃ q, l.foldl (fun t p => t.postZone p.1 p.2) s = s.setNotices q := by
  induction l generalizing s with
  | nil => exact ⟨s.notices, rfl⟩
  | cons p l ih =>
    obtain ⟨q, h⟩ := s.postZone_spec p.1 p.2
    obtain ⟨r, g⟩ := ih (s.postZone p.1 p.2)
    exact ⟨r, by rw [List.foldl_cons, g, h, State.setNotices_setNotices]⟩

/-- An event of all zones sets every zone record and every heater record to what the event makes of that
zone, may count one drawing, and posts notices: nothing else. -/
theorem State.applyZones_spec (f : ZoneIx → ZoneStep → ZoneStep) :
    ∃ q, s.applyZones f = (((s.setZones (Vector.ofFn (fun z => (f z (s.zoneStep z)).zone))).setHeaters
      (Vector.ofFn (fun z => (f z (s.zoneStep z)).heater))).setDraws
      (if (postingZones (fun z => f z (s.zoneStep z))).length ≤ 1 then s.draws else s.draws + 1)).setNotices q := by
  unfold State.applyZones
  exact State.postZones_spec _ _


/-- `post` may change notices alone. -/
@[simp] theorem State.post_frame (k : NoticeKind) (u : Subject) (v : Option Int) :
    (s.post k u v).tools = s.tools ∧ (s.post k u v).rates = s.rates ∧
    (s.post k u v).zones = s.zones ∧ (s.post k u v).drive = s.drive ∧
    (s.post k u v).heaters = s.heaters ∧ (s.post k u v).scale = s.scale ∧
    (s.post k u v).queue = s.queue ∧ (s.post k u v).cycle = s.cycle ∧
    (s.post k u v).cure = s.cure ∧ (s.post k u v).ejector = s.ejector ∧
    (s.post k u v).ring = s.ring ∧ (s.post k u v).port = s.port ∧
    (s.post k u v).clocks = s.clocks ∧ (s.post k u v).inputs = s.inputs ∧
    (s.post k u v).timers = s.timers ∧ (s.post k u v).draws = s.draws ∧
    (s.post k u v).pending = s.pending :=
  ⟨rfl, rfl, rfl, rfl, rfl, rfl, rfl, rfl, rfl, rfl, rfl, rfl, rfl, rfl, rfl, rfl, rfl⟩

/-- `restartNotices` may change notices alone. -/
@[simp] theorem State.restartNotices_frame :
    s.restartNotices.tools = s.tools ∧ s.restartNotices.rates = s.rates ∧
    s.restartNotices.zones = s.zones ∧ s.restartNotices.drive = s.drive ∧
    s.restartNotices.heaters = s.heaters ∧ s.restartNotices.scale = s.scale ∧
    s.restartNotices.queue = s.queue ∧ s.restartNotices.cycle = s.cycle ∧
    s.restartNotices.cure = s.cure ∧ s.restartNotices.ejector = s.ejector ∧
    s.restartNotices.ring = s.ring ∧ s.restartNotices.port = s.port ∧
    s.restartNotices.clocks = s.clocks ∧ s.restartNotices.inputs = s.inputs ∧
    s.restartNotices.timers = s.timers ∧ s.restartNotices.draws = s.draws ∧
    s.restartNotices.pending = s.pending :=
  ⟨rfl, rfl, rfl, rfl, rfl, rfl, rfl, rfl, rfl, rfl, rfl, rfl, rfl, rfl, rfl, rfl, rfl⟩

/-- `updateOpen` may change ring alone. -/
@[simp] theorem State.updateOpen_frame (f : PartRecord → PartRecord) :
    (s.updateOpen f).tools = s.tools ∧ (s.updateOpen f).rates = s.rates ∧
    (s.updateOpen f).zones = s.zones ∧ (s.updateOpen f).drive = s.drive ∧
    (s.updateOpen f).heaters = s.heaters ∧ (s.updateOpen f).scale = s.scale ∧
    (s.updateOpen f).queue = s.queue ∧ (s.updateOpen f).cycle = s.cycle ∧
    (s.updateOpen f).cure = s.cure ∧ (s.updateOpen f).ejector = s.ejector ∧
    (s.updateOpen f).port = s.port ∧ (s.updateOpen f).notices = s.notices ∧
    (s.updateOpen f).clocks = s.clocks ∧ (s.updateOpen f).inputs = s.inputs ∧
    (s.updateOpen f).timers = s.timers ∧ (s.updateOpen f).draws = s.draws ∧
    (s.updateOpen f).pending = s.pending :=
  ⟨rfl, rfl, rfl, rfl, rfl, rfl, rfl, rfl, rfl, rfl, rfl, rfl, rfl, rfl, rfl, rfl, rfl⟩

/-- `addFault` may change ring alone. -/
@[simp] theorem State.addFault_frame (c : FaultCode) :
    (s.addFault c).tools = s.tools ∧ (s.addFault c).rates = s.rates ∧
    (s.addFault c).zones = s.zones ∧ (s.addFault c).drive = s.drive ∧
    (s.addFault c).heaters = s.heaters ∧ (s.addFault c).scale = s.scale ∧
    (s.addFault c).queue = s.queue ∧ (s.addFault c).cycle = s.cycle ∧
    (s.addFault c).cure = s.cure ∧ (s.addFault c).ejector = s.ejector ∧
    (s.addFault c).port = s.port ∧ (s.addFault c).notices = s.notices ∧
    (s.addFault c).clocks = s.clocks ∧ (s.addFault c).inputs = s.inputs ∧
    (s.addFault c).timers = s.timers ∧ (s.addFault c).draws = s.draws ∧
    (s.addFault c).pending = s.pending :=
  ⟨rfl, rfl, rfl, rfl, rfl, rfl, rfl, rfl, rfl, rfl, rfl, rfl, rfl, rfl, rfl, rfl, rfl⟩

/-- `setOutcome` may change ring alone. -/
@[simp] theorem State.setOutcome_frame (v : PartOutcome) :
    (s.setOutcome v).tools = s.tools ∧ (s.setOutcome v).rates = s.rates ∧
    (s.setOutcome v).zones = s.zones ∧ (s.setOutcome v).drive = s.drive ∧
    (s.setOutcome v).heaters = s.heaters ∧ (s.setOutcome v).scale = s.scale ∧
    (s.setOutcome v).queue = s.queue ∧ (s.setOutcome v).cycle = s.cycle ∧
    (s.setOutcome v).cure = s.cure ∧ (s.setOutcome v).ejector = s.ejector ∧
    (s.setOutcome v).port = s.port ∧ (s.setOutcome v).notices = s.notices ∧
    (s.setOutcome v).clocks = s.clocks ∧ (s.setOutcome v).inputs = s.inputs ∧
    (s.setOutcome v).timers = s.timers ∧ (s.setOutcome v).draws = s.draws ∧
    (s.setOutcome v).pending = s.pending :=
  ⟨rfl, rfl, rfl, rfl, rfl, rfl, rfl, rfl, rfl, rfl, rfl, rfl, rfl, rfl, rfl, rfl, rfl⟩

/-- `markAborted` may change ring alone. -/
@[simp] theorem State.markAborted_frame (c : FaultCode) :
    (s.markAborted c).tools = s.tools ∧ (s.markAborted c).rates = s.rates ∧
    (s.markAborted c).zones = s.zones ∧ (s.markAborted c).drive = s.drive ∧
    (s.markAborted c).heaters = s.heaters ∧ (s.markAborted c).scale = s.scale ∧
    (s.markAborted c).queue = s.queue ∧ (s.markAborted c).cycle = s.cycle ∧
    (s.markAborted c).cure = s.cure ∧ (s.markAborted c).ejector = s.ejector ∧
    (s.markAborted c).port = s.port ∧ (s.markAborted c).notices = s.notices ∧
    (s.markAborted c).clocks = s.clocks ∧ (s.markAborted c).inputs = s.inputs ∧
    (s.markAborted c).timers = s.timers ∧ (s.markAborted c).draws = s.draws ∧
    (s.markAborted c).pending = s.pending :=
  ⟨rfl, rfl, rfl, rfl, rfl, rfl, rfl, rfl, rfl, rfl, rfl, rfl, rfl, rfl, rfl, rfl, rfl⟩

/-- `elapse` may change timers alone. -/
@[simp] theorem State.elapse_frame (ms : Nat) :
    (s.elapse ms).tools = s.tools ∧ (s.elapse ms).rates = s.rates ∧ (s.elapse ms).zones = s.zones ∧
    (s.elapse ms).drive = s.drive ∧ (s.elapse ms).heaters = s.heaters ∧
    (s.elapse ms).scale = s.scale ∧ (s.elapse ms).queue = s.queue ∧ (s.elapse ms).cycle = s.cycle ∧
    (s.elapse ms).cure = s.cure ∧ (s.elapse ms).ejector = s.ejector ∧ (s.elapse ms).ring = s.ring ∧
    (s.elapse ms).port = s.port ∧ (s.elapse ms).notices = s.notices ∧
    (s.elapse ms).clocks = s.clocks ∧ (s.elapse ms).inputs = s.inputs ∧
    (s.elapse ms).draws = s.draws ∧ (s.elapse ms).pending = s.pending :=
  ⟨rfl, rfl, rfl, rfl, rfl, rfl, rfl, rfl, rfl, rfl, rfl, rfl, rfl, rfl, rfl, rfl, rfl⟩

/-- `zoneMoment` may change timers alone. -/
@[simp] theorem State.zoneMoment_frame (z : ZoneIx) :
    (s.zoneMoment z).tools = s.tools ∧ (s.zoneMoment z).rates = s.rates ∧
    (s.zoneMoment z).zones = s.zones ∧ (s.zoneMoment z).drive = s.drive ∧
    (s.zoneMoment z).heaters = s.heaters ∧ (s.zoneMoment z).scale = s.scale ∧
    (s.zoneMoment z).queue = s.queue ∧ (s.zoneMoment z).cycle = s.cycle ∧
    (s.zoneMoment z).cure = s.cure ∧ (s.zoneMoment z).ejector = s.ejector ∧
    (s.zoneMoment z).ring = s.ring ∧ (s.zoneMoment z).port = s.port ∧
    (s.zoneMoment z).notices = s.notices ∧ (s.zoneMoment z).clocks = s.clocks ∧
    (s.zoneMoment z).inputs = s.inputs ∧ (s.zoneMoment z).draws = s.draws ∧
    (s.zoneMoment z).pending = s.pending :=
  ⟨rfl, rfl, rfl, rfl, rfl, rfl, rfl, rfl, rfl, rfl, rfl, rfl, rfl, rfl, rfl, rfl, rfl⟩

/-- `bridgeMoment` may change timers alone. -/
@[simp] theorem State.bridgeMoment_frame :
    s.bridgeMoment.tools = s.tools ∧ s.bridgeMoment.rates = s.rates ∧
    s.bridgeMoment.zones = s.zones ∧ s.bridgeMoment.drive = s.drive ∧
    s.bridgeMoment.heaters = s.heaters ∧ s.bridgeMoment.scale = s.scale ∧
    s.bridgeMoment.queue = s.queue ∧ s.bridgeMoment.cycle = s.cycle ∧
    s.bridgeMoment.cure = s.cure ∧ s.bridgeMoment.ejector = s.ejector ∧
    s.bridgeMoment.ring = s.ring ∧ s.bridgeMoment.port = s.port ∧
    s.bridgeMoment.notices = s.notices ∧ s.bridgeMoment.clocks = s.clocks ∧
    s.bridgeMoment.inputs = s.inputs ∧ s.bridgeMoment.draws = s.draws ∧
    s.bridgeMoment.pending = s.pending :=
  ⟨rfl, rfl, rfl, rfl, rfl, rfl, rfl, rfl, rfl, rfl, rfl, rfl, rfl, rfl, rfl, rfl, rfl⟩

/-- `secondMoment` may change timers alone. -/
@[simp] theorem State.secondMoment_frame :
    s.secondMoment.tools = s.tools ∧ s.secondMoment.rates = s.rates ∧
    s.secondMoment.zones = s.zones ∧ s.secondMoment.drive = s.drive ∧
    s.secondMoment.heaters = s.heaters ∧ s.secondMoment.scale = s.scale ∧
    s.secondMoment.queue = s.queue ∧ s.secondMoment.cycle = s.cycle ∧
    s.secondMoment.cure = s.cure ∧ s.secondMoment.ejector = s.ejector ∧
    s.secondMoment.ring = s.ring ∧ s.secondMoment.port = s.port ∧
    s.secondMoment.notices = s.notices ∧ s.secondMoment.clocks = s.clocks ∧
    s.secondMoment.inputs = s.inputs ∧ s.secondMoment.draws = s.draws ∧
    s.secondMoment.pending = s.pending :=
  ⟨rfl, rfl, rfl, rfl, rfl, rfl, rfl, rfl, rfl, rfl, rfl, rfl, rfl, rfl, rfl, rfl, rfl⟩

/-- `windowMoment` may change timers alone. -/
@[simp] theorem State.windowMoment_frame :
    s.windowMoment.tools = s.tools ∧ s.windowMoment.rates = s.rates ∧
    s.windowMoment.zones = s.zones ∧ s.windowMoment.drive = s.drive ∧
    s.windowMoment.heaters = s.heaters ∧ s.windowMoment.scale = s.scale ∧
    s.windowMoment.queue = s.queue ∧ s.windowMoment.cycle = s.cycle ∧
    s.windowMoment.cure = s.cure ∧ s.windowMoment.ejector = s.ejector ∧
    s.windowMoment.ring = s.ring ∧ s.windowMoment.port = s.port ∧
    s.windowMoment.notices = s.notices ∧ s.windowMoment.clocks = s.clocks ∧
    s.windowMoment.inputs = s.inputs ∧ s.windowMoment.draws = s.draws ∧
    s.windowMoment.pending = s.pending :=
  ⟨rfl, rfl, rfl, rfl, rfl, rfl, rfl, rfl, rfl, rfl, rfl, rfl, rfl, rfl, rfl, rfl, rfl⟩

/-- `onTimeMoment` may change timers alone. -/
@[simp] theorem State.onTimeMoment_frame (z : ZoneIx) :
    (s.onTimeMoment z).tools = s.tools ∧ (s.onTimeMoment z).rates = s.rates ∧
    (s.onTimeMoment z).zones = s.zones ∧ (s.onTimeMoment z).drive = s.drive ∧
    (s.onTimeMoment z).heaters = s.heaters ∧ (s.onTimeMoment z).scale = s.scale ∧
    (s.onTimeMoment z).queue = s.queue ∧ (s.onTimeMoment z).cycle = s.cycle ∧
    (s.onTimeMoment z).cure = s.cure ∧ (s.onTimeMoment z).ejector = s.ejector ∧
    (s.onTimeMoment z).ring = s.ring ∧ (s.onTimeMoment z).port = s.port ∧
    (s.onTimeMoment z).notices = s.notices ∧ (s.onTimeMoment z).clocks = s.clocks ∧
    (s.onTimeMoment z).inputs = s.inputs ∧ (s.onTimeMoment z).draws = s.draws ∧
    (s.onTimeMoment z).pending = s.pending :=
  ⟨rfl, rfl, rfl, rfl, rfl, rfl, rfl, rfl, rfl, rfl, rfl, rfl, rfl, rfl, rfl, rfl, rfl⟩

/-- `cureMoment` may change timers alone. -/
@[simp] theorem State.cureMoment_frame :
    s.cureMoment.tools = s.tools ∧ s.cureMoment.rates = s.rates ∧ s.cureMoment.zones = s.zones ∧
    s.cureMoment.drive = s.drive ∧ s.cureMoment.heaters = s.heaters ∧
    s.cureMoment.scale = s.scale ∧ s.cureMoment.queue = s.queue ∧ s.cureMoment.cycle = s.cycle ∧
    s.cureMoment.cure = s.cure ∧ s.cureMoment.ejector = s.ejector ∧ s.cureMoment.ring = s.ring ∧
    s.cureMoment.port = s.port ∧ s.cureMoment.notices = s.notices ∧
    s.cureMoment.clocks = s.clocks ∧ s.cureMoment.inputs = s.inputs ∧
    s.cureMoment.draws = s.draws ∧ s.cureMoment.pending = s.pending :=
  ⟨rfl, rfl, rfl, rfl, rfl, rfl, rfl, rfl, rfl, rfl, rfl, rfl, rfl, rfl, rfl, rfl, rfl⟩

/-- `closeMoment` may change timers alone. -/
@[simp] theorem State.closeMoment_frame :
    s.closeMoment.tools = s.tools ∧ s.closeMoment.rates = s.rates ∧ s.closeMoment.zones = s.zones ∧
    s.closeMoment.drive = s.drive ∧ s.closeMoment.heaters = s.heaters ∧
    s.closeMoment.scale = s.scale ∧ s.closeMoment.queue = s.queue ∧ s.closeMoment.cycle = s.cycle ∧
    s.closeMoment.cure = s.cure ∧ s.closeMoment.ejector = s.ejector ∧ s.closeMoment.ring = s.ring ∧
    s.closeMoment.port = s.port ∧ s.closeMoment.notices = s.notices ∧
    s.closeMoment.clocks = s.clocks ∧ s.closeMoment.inputs = s.inputs ∧
    s.closeMoment.draws = s.draws ∧ s.closeMoment.pending = s.pending :=
  ⟨rfl, rfl, rfl, rfl, rfl, rfl, rfl, rfl, rfl, rfl, rfl, rfl, rfl, rfl, rfl, rfl, rfl⟩

/-- `openMoment` may change timers alone. -/
@[simp] theorem State.openMoment_frame :
    s.openMoment.tools = s.tools ∧ s.openMoment.rates = s.rates ∧ s.openMoment.zones = s.zones ∧
    s.openMoment.drive = s.drive ∧ s.openMoment.heaters = s.heaters ∧
    s.openMoment.scale = s.scale ∧ s.openMoment.queue = s.queue ∧ s.openMoment.cycle = s.cycle ∧
    s.openMoment.cure = s.cure ∧ s.openMoment.ejector = s.ejector ∧ s.openMoment.ring = s.ring ∧
    s.openMoment.port = s.port ∧ s.openMoment.notices = s.notices ∧
    s.openMoment.clocks = s.clocks ∧ s.openMoment.inputs = s.inputs ∧
    s.openMoment.draws = s.draws ∧ s.openMoment.pending = s.pending :=
  ⟨rfl, rfl, rfl, rfl, rfl, rfl, rfl, rfl, rfl, rfl, rfl, rfl, rfl, rfl, rfl, rfl, rfl⟩

/-- `strokeMoment` may change timers alone. -/
@[simp] theorem State.strokeMoment_frame :
    s.strokeMoment.tools = s.tools ∧ s.strokeMoment.rates = s.rates ∧
    s.strokeMoment.zones = s.zones ∧ s.strokeMoment.drive = s.drive ∧
    s.strokeMoment.heaters = s.heaters ∧ s.strokeMoment.scale = s.scale ∧
    s.strokeMoment.queue = s.queue ∧ s.strokeMoment.cycle = s.cycle ∧
    s.strokeMoment.cure = s.cure ∧ s.strokeMoment.ejector = s.ejector ∧
    s.strokeMoment.ring = s.ring ∧ s.strokeMoment.port = s.port ∧
    s.strokeMoment.notices = s.notices ∧ s.strokeMoment.clocks = s.clocks ∧
    s.strokeMoment.inputs = s.inputs ∧ s.strokeMoment.draws = s.draws ∧
    s.strokeMoment.pending = s.pending :=
  ⟨rfl, rfl, rfl, rfl, rfl, rfl, rfl, rfl, rfl, rfl, rfl, rfl, rfl, rfl, rfl, rfl, rfl⟩

/-- `captureMoment` may change timers alone. -/
@[simp] theorem State.captureMoment_frame :
    s.captureMoment.tools = s.tools ∧ s.captureMoment.rates = s.rates ∧
    s.captureMoment.zones = s.zones ∧ s.captureMoment.drive = s.drive ∧
    s.captureMoment.heaters = s.heaters ∧ s.captureMoment.scale = s.scale ∧
    s.captureMoment.queue = s.queue ∧ s.captureMoment.cycle = s.cycle ∧
    s.captureMoment.cure = s.cure ∧ s.captureMoment.ejector = s.ejector ∧
    s.captureMoment.ring = s.ring ∧ s.captureMoment.port = s.port ∧
    s.captureMoment.notices = s.notices ∧ s.captureMoment.clocks = s.clocks ∧
    s.captureMoment.inputs = s.inputs ∧ s.captureMoment.draws = s.draws ∧
    s.captureMoment.pending = s.pending :=
  ⟨rfl, rfl, rfl, rfl, rfl, rfl, rfl, rfl, rfl, rfl, rfl, rfl, rfl, rfl, rfl, rfl, rfl⟩

/-- `gapMoment` may change timers alone. -/
@[simp] theorem State.gapMoment_frame :
    s.gapMoment.tools = s.tools ∧ s.gapMoment.rates = s.rates ∧ s.gapMoment.zones = s.zones ∧
    s.gapMoment.drive = s.drive ∧ s.gapMoment.heaters = s.heaters ∧ s.gapMoment.scale = s.scale ∧
    s.gapMoment.queue = s.queue ∧ s.gapMoment.cycle = s.cycle ∧ s.gapMoment.cure = s.cure ∧
    s.gapMoment.ejector = s.ejector ∧ s.gapMoment.ring = s.ring ∧ s.gapMoment.port = s.port ∧
    s.gapMoment.notices = s.notices ∧ s.gapMoment.clocks = s.clocks ∧
    s.gapMoment.inputs = s.inputs ∧ s.gapMoment.draws = s.draws ∧ s.gapMoment.pending = s.pending :=
  ⟨rfl, rfl, rfl, rfl, rfl, rfl, rfl, rfl, rfl, rfl, rfl, rfl, rfl, rfl, rfl, rfl, rfl⟩

/-- `owe` may change port alone. -/
@[simp] theorem State.owe_frame (k : Byte) (v : Status) (b : List Byte) :
    (s.owe k v b).tools = s.tools ∧ (s.owe k v b).rates = s.rates ∧ (s.owe k v b).zones = s.zones ∧
    (s.owe k v b).drive = s.drive ∧ (s.owe k v b).heaters = s.heaters ∧
    (s.owe k v b).scale = s.scale ∧ (s.owe k v b).queue = s.queue ∧ (s.owe k v b).cycle = s.cycle ∧
    (s.owe k v b).cure = s.cure ∧ (s.owe k v b).ejector = s.ejector ∧ (s.owe k v b).ring = s.ring ∧
    (s.owe k v b).notices = s.notices ∧ (s.owe k v b).clocks = s.clocks ∧
    (s.owe k v b).inputs = s.inputs ∧ (s.owe k v b).timers = s.timers ∧
    (s.owe k v b).draws = s.draws ∧ (s.owe k v b).pending = s.pending :=
  ⟨rfl, rfl, rfl, rfl, rfl, rfl, rfl, rfl, rfl, rfl, rfl, rfl, rfl, rfl, rfl, rfl, rfl⟩

/-- `hunt` may change port alone. -/
@[simp] theorem State.hunt_frame :
    s.hunt.tools = s.tools ∧ s.hunt.rates = s.rates ∧ s.hunt.zones = s.zones ∧
    s.hunt.drive = s.drive ∧ s.hunt.heaters = s.heaters ∧ s.hunt.scale = s.scale ∧
    s.hunt.queue = s.queue ∧ s.hunt.cycle = s.cycle ∧ s.hunt.cure = s.cure ∧
    s.hunt.ejector = s.ejector ∧ s.hunt.ring = s.ring ∧ s.hunt.notices = s.notices ∧
    s.hunt.clocks = s.clocks ∧ s.hunt.inputs = s.inputs ∧ s.hunt.timers = s.timers ∧
    s.hunt.draws = s.draws ∧ s.hunt.pending = s.pending :=
  ⟨rfl, rfl, rfl, rfl, rfl, rfl, rfl, rfl, rfl, rfl, rfl, rfl, rfl, rfl, rfl, rfl, rfl⟩

/-- `evaluate` may change cycle alone. -/
@[simp] theorem State.evaluate_frame :
    s.evaluate.tools = s.tools ∧ s.evaluate.rates = s.rates ∧ s.evaluate.zones = s.zones ∧
    s.evaluate.drive = s.drive ∧ s.evaluate.heaters = s.heaters ∧ s.evaluate.scale = s.scale ∧
    s.evaluate.queue = s.queue ∧ s.evaluate.cure = s.cure ∧ s.evaluate.ejector = s.ejector ∧
    s.evaluate.ring = s.ring ∧ s.evaluate.port = s.port ∧ s.evaluate.notices = s.notices ∧
    s.evaluate.clocks = s.clocks ∧ s.evaluate.inputs = s.inputs ∧ s.evaluate.timers = s.timers ∧
    s.evaluate.draws = s.draws ∧ s.evaluate.pending = s.pending :=
  ⟨rfl, rfl, rfl, rfl, rfl, rfl, rfl, rfl, rfl, rfl, rfl, rfl, rfl, rfl, rfl, rfl, rfl⟩

/-- `drivePermits` may change cycle alone. -/
@[simp] theorem State.drivePermits_frame :
    s.drivePermits.tools = s.tools ∧ s.drivePermits.rates = s.rates ∧
    s.drivePermits.zones = s.zones ∧ s.drivePermits.drive = s.drive ∧
    s.drivePermits.heaters = s.heaters ∧ s.drivePermits.scale = s.scale ∧
    s.drivePermits.queue = s.queue ∧ s.drivePermits.cure = s.cure ∧
    s.drivePermits.ejector = s.ejector ∧ s.drivePermits.ring = s.ring ∧
    s.drivePermits.port = s.port ∧ s.drivePermits.notices = s.notices ∧
    s.drivePermits.clocks = s.clocks ∧ s.drivePermits.inputs = s.inputs ∧
    s.drivePermits.timers = s.timers ∧ s.drivePermits.draws = s.draws ∧
    s.drivePermits.pending = s.pending :=
  ⟨rfl, rfl, rfl, rfl, rfl, rfl, rfl, rfl, rfl, rfl, rfl, rfl, rfl, rfl, rfl, rfl, rfl⟩

/-- `enter` may change cycle alone. -/
@[simp] theorem State.enter_frame (st : CycleState) :
    (s.enter st).tools = s.tools ∧ (s.enter st).rates = s.rates ∧ (s.enter st).zones = s.zones ∧
    (s.enter st).drive = s.drive ∧ (s.enter st).heaters = s.heaters ∧
    (s.enter st).scale = s.scale ∧ (s.enter st).queue = s.queue ∧ (s.enter st).cure = s.cure ∧
    (s.enter st).ejector = s.ejector ∧ (s.enter st).ring = s.ring ∧ (s.enter st).port = s.port ∧
    (s.enter st).notices = s.notices ∧ (s.enter st).clocks = s.clocks ∧
    (s.enter st).inputs = s.inputs ∧ (s.enter st).timers = s.timers ∧
    (s.enter st).draws = s.draws ∧ (s.enter st).pending = s.pending :=
  ⟨rfl, rfl, rfl, rfl, rfl, rfl, rfl, rfl, rfl, rfl, rfl, rfl, rfl, rfl, rfl, rfl, rfl⟩

/-- `setMounted` may change cycle alone. -/
@[simp] theorem State.setMounted_frame (m : Option SlotIx) :
    (s.setMounted m).tools = s.tools ∧ (s.setMounted m).rates = s.rates ∧
    (s.setMounted m).zones = s.zones ∧ (s.setMounted m).drive = s.drive ∧
    (s.setMounted m).heaters = s.heaters ∧ (s.setMounted m).scale = s.scale ∧
    (s.setMounted m).queue = s.queue ∧ (s.setMounted m).cure = s.cure ∧
    (s.setMounted m).ejector = s.ejector ∧ (s.setMounted m).ring = s.ring ∧
    (s.setMounted m).port = s.port ∧ (s.setMounted m).notices = s.notices ∧
    (s.setMounted m).clocks = s.clocks ∧ (s.setMounted m).inputs = s.inputs ∧
    (s.setMounted m).timers = s.timers ∧ (s.setMounted m).draws = s.draws ∧
    (s.setMounted m).pending = s.pending :=
  ⟨rfl, rfl, rfl, rfl, rfl, rfl, rfl, rfl, rfl, rfl, rfl, rfl, rfl, rfl, rfl, rfl, rfl⟩

/-- `startWindow` may change drive, heaters alone. -/
@[simp] theorem State.startWindow_frame :
    s.startWindow.tools = s.tools ∧ s.startWindow.rates = s.rates ∧ s.startWindow.zones = s.zones ∧
    s.startWindow.scale = s.scale ∧ s.startWindow.queue = s.queue ∧ s.startWindow.cycle = s.cycle ∧
    s.startWindow.cure = s.cure ∧ s.startWindow.ejector = s.ejector ∧ s.startWindow.ring = s.ring ∧
    s.startWindow.port = s.port ∧ s.startWindow.notices = s.notices ∧
    s.startWindow.clocks = s.clocks ∧ s.startWindow.inputs = s.inputs ∧
    s.startWindow.timers = s.timers ∧ s.startWindow.draws = s.draws ∧
    s.startWindow.pending = s.pending :=
  ⟨rfl, rfl, rfl, rfl, rfl, rfl, rfl, rfl, rfl, rfl, rfl, rfl, rfl, rfl, rfl, rfl⟩

/-- `outputOff` may change heaters alone. -/
@[simp] theorem State.outputOff_frame (z : ZoneIx) :
    (s.outputOff z).tools = s.tools ∧ (s.outputOff z).rates = s.rates ∧
    (s.outputOff z).zones = s.zones ∧ (s.outputOff z).drive = s.drive ∧
    (s.outputOff z).scale = s.scale ∧ (s.outputOff z).queue = s.queue ∧
    (s.outputOff z).cycle = s.cycle ∧ (s.outputOff z).cure = s.cure ∧
    (s.outputOff z).ejector = s.ejector ∧ (s.outputOff z).ring = s.ring ∧
    (s.outputOff z).port = s.port ∧ (s.outputOff z).notices = s.notices ∧
    (s.outputOff z).clocks = s.clocks ∧ (s.outputOff z).inputs = s.inputs ∧
    (s.outputOff z).timers = s.timers ∧ (s.outputOff z).draws = s.draws ∧
    (s.outputOff z).pending = s.pending :=
  ⟨rfl, rfl, rfl, rfl, rfl, rfl, rfl, rfl, rfl, rfl, rfl, rfl, rfl, rfl, rfl, rfl, rfl⟩

/-- `disarm` may change scale alone. -/
@[simp] theorem State.disarm_frame :
    s.disarm.tools = s.tools ∧ s.disarm.rates = s.rates ∧ s.disarm.zones = s.zones ∧
    s.disarm.drive = s.drive ∧ s.disarm.heaters = s.heaters ∧ s.disarm.queue = s.queue ∧
    s.disarm.cycle = s.cycle ∧ s.disarm.cure = s.cure ∧ s.disarm.ejector = s.ejector ∧
    s.disarm.ring = s.ring ∧ s.disarm.port = s.port ∧ s.disarm.notices = s.notices ∧
    s.disarm.clocks = s.clocks ∧ s.disarm.inputs = s.inputs ∧ s.disarm.timers = s.timers ∧
    s.disarm.draws = s.draws ∧ s.disarm.pending = s.pending :=
  ⟨rfl, rfl, rfl, rfl, rfl, rfl, rfl, rfl, rfl, rfl, rfl, rfl, rfl, rfl, rfl, rfl, rfl⟩

/-- `beginMeasurement` may change scale alone. -/
@[simp] theorem State.beginMeasurement_frame (k : MeasureKind) :
    (s.beginMeasurement k).tools = s.tools ∧ (s.beginMeasurement k).rates = s.rates ∧
    (s.beginMeasurement k).zones = s.zones ∧ (s.beginMeasurement k).drive = s.drive ∧
    (s.beginMeasurement k).heaters = s.heaters ∧ (s.beginMeasurement k).queue = s.queue ∧
    (s.beginMeasurement k).cycle = s.cycle ∧ (s.beginMeasurement k).cure = s.cure ∧
    (s.beginMeasurement k).ejector = s.ejector ∧ (s.beginMeasurement k).ring = s.ring ∧
    (s.beginMeasurement k).port = s.port ∧ (s.beginMeasurement k).notices = s.notices ∧
    (s.beginMeasurement k).clocks = s.clocks ∧ (s.beginMeasurement k).inputs = s.inputs ∧
    (s.beginMeasurement k).timers = s.timers ∧ (s.beginMeasurement k).draws = s.draws ∧
    (s.beginMeasurement k).pending = s.pending :=
  ⟨rfl, rfl, rfl, rfl, rfl, rfl, rfl, rfl, rfl, rfl, rfl, rfl, rfl, rfl, rfl, rfl, rfl⟩

/-- `beginCapture` may change scale, timers alone. -/
@[simp] theorem State.beginCapture_frame (p : Snapshot) :
    (s.beginCapture p).tools = s.tools ∧ (s.beginCapture p).rates = s.rates ∧
    (s.beginCapture p).zones = s.zones ∧ (s.beginCapture p).drive = s.drive ∧
    (s.beginCapture p).heaters = s.heaters ∧ (s.beginCapture p).queue = s.queue ∧
    (s.beginCapture p).cycle = s.cycle ∧ (s.beginCapture p).cure = s.cure ∧
    (s.beginCapture p).ejector = s.ejector ∧ (s.beginCapture p).ring = s.ring ∧
    (s.beginCapture p).port = s.port ∧ (s.beginCapture p).notices = s.notices ∧
    (s.beginCapture p).clocks = s.clocks ∧ (s.beginCapture p).inputs = s.inputs ∧
    (s.beginCapture p).draws = s.draws ∧ (s.beginCapture p).pending = s.pending :=
  ⟨rfl, rfl, rfl, rfl, rfl, rfl, rfl, rfl, rfl, rfl, rfl, rfl, rfl, rfl, rfl, rfl⟩

/-- `stage` may change tools alone. -/
@[simp] theorem State.stage_frame (i : SlotIx) (r : Recipe) :
    (s.stage i r).rates = s.rates ∧ (s.stage i r).zones = s.zones ∧ (s.stage i r).drive = s.drive ∧
    (s.stage i r).heaters = s.heaters ∧ (s.stage i r).scale = s.scale ∧
    (s.stage i r).queue = s.queue ∧ (s.stage i r).cycle = s.cycle ∧ (s.stage i r).cure = s.cure ∧
    (s.stage i r).ejector = s.ejector ∧ (s.stage i r).ring = s.ring ∧ (s.stage i r).port = s.port ∧
    (s.stage i r).notices = s.notices ∧ (s.stage i r).clocks = s.clocks ∧
    (s.stage i r).inputs = s.inputs ∧ (s.stage i r).timers = s.timers ∧
    (s.stage i r).draws = s.draws ∧ (s.stage i r).pending = s.pending :=
  ⟨rfl, rfl, rfl, rfl, rfl, rfl, rfl, rfl, rfl, rfl, rfl, rfl, rfl, rfl, rfl, rfl, rfl⟩

/-- `writeTool` may change tools alone. -/
@[simp] theorem State.writeTool_frame (i : SlotIx) (t : Tool) :
    (s.writeTool i t).rates = s.rates ∧ (s.writeTool i t).zones = s.zones ∧
    (s.writeTool i t).drive = s.drive ∧ (s.writeTool i t).heaters = s.heaters ∧
    (s.writeTool i t).scale = s.scale ∧ (s.writeTool i t).queue = s.queue ∧
    (s.writeTool i t).cycle = s.cycle ∧ (s.writeTool i t).cure = s.cure ∧
    (s.writeTool i t).ejector = s.ejector ∧ (s.writeTool i t).ring = s.ring ∧
    (s.writeTool i t).port = s.port ∧ (s.writeTool i t).notices = s.notices ∧
    (s.writeTool i t).clocks = s.clocks ∧ (s.writeTool i t).inputs = s.inputs ∧
    (s.writeTool i t).timers = s.timers ∧ (s.writeTool i t).draws = s.draws ∧
    (s.writeTool i t).pending = s.pending :=
  ⟨rfl, rfl, rfl, rfl, rfl, rfl, rfl, rfl, rfl, rfl, rfl, rfl, rfl, rfl, rfl, rfl, rfl⟩

/-- `endPending` may change cure alone. -/
@[simp] theorem State.endPending_frame :
    s.endPending.tools = s.tools ∧ s.endPending.rates = s.rates ∧ s.endPending.zones = s.zones ∧
    s.endPending.drive = s.drive ∧ s.endPending.heaters = s.heaters ∧
    s.endPending.scale = s.scale ∧ s.endPending.queue = s.queue ∧ s.endPending.cycle = s.cycle ∧
    s.endPending.ejector = s.ejector ∧ s.endPending.ring = s.ring ∧ s.endPending.port = s.port ∧
    s.endPending.notices = s.notices ∧ s.endPending.clocks = s.clocks ∧
    s.endPending.inputs = s.inputs ∧ s.endPending.timers = s.timers ∧
    s.endPending.draws = s.draws ∧ s.endPending.pending = s.pending :=
  ⟨rfl, rfl, rfl, rfl, rfl, rfl, rfl, rfl, rfl, rfl, rfl, rfl, rfl, rfl, rfl, rfl, rfl⟩

/-- `endCure` may change cure, ring alone. -/
@[simp] theorem State.endCure_frame :
    s.endCure.tools = s.tools ∧ s.endCure.rates = s.rates ∧ s.endCure.zones = s.zones ∧
    s.endCure.drive = s.drive ∧ s.endCure.heaters = s.heaters ∧ s.endCure.scale = s.scale ∧
    s.endCure.queue = s.queue ∧ s.endCure.cycle = s.cycle ∧ s.endCure.ejector = s.ejector ∧
    s.endCure.port = s.port ∧ s.endCure.notices = s.notices ∧ s.endCure.clocks = s.clocks ∧
    s.endCure.inputs = s.inputs ∧ s.endCure.timers = s.timers ∧ s.endCure.draws = s.draws ∧
    s.endCure.pending = s.pending :=
  ⟨rfl, rfl, rfl, rfl, rfl, rfl, rfl, rfl, rfl, rfl, rfl, rfl, rfl, rfl, rfl, rfl⟩

/-- `idleCure` may change cure, timers alone. -/
@[simp] theorem State.idleCure_frame :
    s.idleCure.tools = s.tools ∧ s.idleCure.rates = s.rates ∧ s.idleCure.zones = s.zones ∧
    s.idleCure.drive = s.drive ∧ s.idleCure.heaters = s.heaters ∧ s.idleCure.scale = s.scale ∧
    s.idleCure.queue = s.queue ∧ s.idleCure.cycle = s.cycle ∧ s.idleCure.ejector = s.ejector ∧
    s.idleCure.ring = s.ring ∧ s.idleCure.port = s.port ∧ s.idleCure.notices = s.notices ∧
    s.idleCure.clocks = s.clocks ∧ s.idleCure.inputs = s.inputs ∧ s.idleCure.draws = s.draws ∧
    s.idleCure.pending = s.pending :=
  ⟨rfl, rfl, rfl, rfl, rfl, rfl, rfl, rfl, rfl, rfl, rfl, rfl, rfl, rfl, rfl, rfl⟩

/-- `beginStroke` may change ejector, timers alone. -/
@[simp] theorem State.beginStroke_frame :
    s.beginStroke.tools = s.tools ∧ s.beginStroke.rates = s.rates ∧ s.beginStroke.zones = s.zones ∧
    s.beginStroke.drive = s.drive ∧ s.beginStroke.heaters = s.heaters ∧
    s.beginStroke.scale = s.scale ∧ s.beginStroke.queue = s.queue ∧ s.beginStroke.cycle = s.cycle ∧
    s.beginStroke.cure = s.cure ∧ s.beginStroke.ring = s.ring ∧ s.beginStroke.port = s.port ∧
    s.beginStroke.notices = s.notices ∧ s.beginStroke.clocks = s.clocks ∧
    s.beginStroke.inputs = s.inputs ∧ s.beginStroke.draws = s.draws ∧
    s.beginStroke.pending = s.pending :=
  ⟨rfl, rfl, rfl, rfl, rfl, rfl, rfl, rfl, rfl, rfl, rfl, rfl, rfl, rfl, rfl, rfl⟩

/-- `retry` may change ejector, timers alone. -/
@[simp] theorem State.retry_frame :
    s.retry.tools = s.tools ∧ s.retry.rates = s.rates ∧ s.retry.zones = s.zones ∧
    s.retry.drive = s.drive ∧ s.retry.heaters = s.heaters ∧ s.retry.scale = s.scale ∧
    s.retry.queue = s.queue ∧ s.retry.cycle = s.cycle ∧ s.retry.cure = s.cure ∧
    s.retry.ring = s.ring ∧ s.retry.port = s.port ∧ s.retry.notices = s.notices ∧
    s.retry.clocks = s.clocks ∧ s.retry.inputs = s.inputs ∧ s.retry.draws = s.draws ∧
    s.retry.pending = s.pending :=
  ⟨rfl, rfl, rfl, rfl, rfl, rfl, rfl, rfl, rfl, rfl, rfl, rfl, rfl, rfl, rfl, rfl⟩

/-- `startCycle` may change queue, ring, cure, timers, cycle alone. -/
@[simp] theorem State.startCycle_frame (i : SlotIx) (t : Tool) (r : Recipe) (n : Nat) (cs rest : List ChargeEntry) :
    (s.startCycle i t r n cs rest).tools = s.tools ∧
    (s.startCycle i t r n cs rest).rates = s.rates ∧
    (s.startCycle i t r n cs rest).zones = s.zones ∧
    (s.startCycle i t r n cs rest).drive = s.drive ∧
    (s.startCycle i t r n cs rest).heaters = s.heaters ∧
    (s.startCycle i t r n cs rest).scale = s.scale ∧
    (s.startCycle i t r n cs rest).ejector = s.ejector ∧
    (s.startCycle i t r n cs rest).port = s.port ∧
    (s.startCycle i t r n cs rest).notices = s.notices ∧
    (s.startCycle i t r n cs rest).clocks = s.clocks ∧
    (s.startCycle i t r n cs rest).inputs = s.inputs ∧
    (s.startCycle i t r n cs rest).draws = s.draws ∧
    (s.startCycle i t r n cs rest).pending = s.pending :=
  ⟨rfl, rfl, rfl, rfl, rfl, rfl, rfl, rfl, rfl, rfl, rfl, rfl, rfl⟩

/-- `beginCure` may change ring, cure, timers, cycle alone. -/
@[simp] theorem State.beginCure_frame :
    s.beginCure.tools = s.tools ∧ s.beginCure.rates = s.rates ∧ s.beginCure.zones = s.zones ∧
    s.beginCure.drive = s.drive ∧ s.beginCure.heaters = s.heaters ∧ s.beginCure.scale = s.scale ∧
    s.beginCure.queue = s.queue ∧ s.beginCure.ejector = s.ejector ∧ s.beginCure.port = s.port ∧
    s.beginCure.notices = s.notices ∧ s.beginCure.clocks = s.clocks ∧
    s.beginCure.inputs = s.inputs ∧ s.beginCure.draws = s.draws ∧ s.beginCure.pending = s.pending :=
  ⟨rfl, rfl, rfl, rfl, rfl, rfl, rfl, rfl, rfl, rfl, rfl, rfl, rfl, rfl⟩

/-- `endMeasurement` may change scale, notices alone. -/
@[simp] theorem State.endMeasurement_frame (zero span : Int) (k : NoticeKind) (v : Int) :
    (s.endMeasurement zero span k v).tools = s.tools ∧
    (s.endMeasurement zero span k v).rates = s.rates ∧
    (s.endMeasurement zero span k v).zones = s.zones ∧
    (s.endMeasurement zero span k v).drive = s.drive ∧
    (s.endMeasurement zero span k v).heaters = s.heaters ∧
    (s.endMeasurement zero span k v).queue = s.queue ∧
    (s.endMeasurement zero span k v).cycle = s.cycle ∧
    (s.endMeasurement zero span k v).cure = s.cure ∧
    (s.endMeasurement zero span k v).ejector = s.ejector ∧
    (s.endMeasurement zero span k v).ring = s.ring ∧
    (s.endMeasurement zero span k v).port = s.port ∧
    (s.endMeasurement zero span k v).clocks = s.clocks ∧
    (s.endMeasurement zero span k v).inputs = s.inputs ∧
    (s.endMeasurement zero span k v).timers = s.timers ∧
    (s.endMeasurement zero span k v).draws = s.draws ∧
    (s.endMeasurement zero span k v).pending = s.pending :=
  ⟨rfl, rfl, rfl, rfl, rfl, rfl, rfl, rfl, rfl, rfl, rfl, rfl, rfl, rfl, rfl, rfl⟩

/-- `notAdmit` may change scale, notices alone. -/
@[simp] theorem State.notAdmit_frame (k : NoticeKind) (p : Snapshot) :
    (s.notAdmit k p).tools = s.tools ∧ (s.notAdmit k p).rates = s.rates ∧
    (s.notAdmit k p).zones = s.zones ∧ (s.notAdmit k p).drive = s.drive ∧
    (s.notAdmit k p).heaters = s.heaters ∧ (s.notAdmit k p).queue = s.queue ∧
    (s.notAdmit k p).cycle = s.cycle ∧ (s.notAdmit k p).cure = s.cure ∧
    (s.notAdmit k p).ejector = s.ejector ∧ (s.notAdmit k p).ring = s.ring ∧
    (s.notAdmit k p).port = s.port ∧ (s.notAdmit k p).clocks = s.clocks ∧
    (s.notAdmit k p).inputs = s.inputs ∧ (s.notAdmit k p).timers = s.timers ∧
    (s.notAdmit k p).draws = s.draws ∧ (s.notAdmit k p).pending = s.pending :=
  ⟨rfl, rfl, rfl, rfl, rfl, rfl, rfl, rfl, rfl, rfl, rfl, rfl, rfl, rfl, rfl, rfl⟩

/-- `failCapture` may change scale, notices alone. -/
@[simp] theorem State.failCapture_frame (p : Snapshot) :
    (s.failCapture p).tools = s.tools ∧ (s.failCapture p).rates = s.rates ∧
    (s.failCapture p).zones = s.zones ∧ (s.failCapture p).drive = s.drive ∧
    (s.failCapture p).heaters = s.heaters ∧ (s.failCapture p).queue = s.queue ∧
    (s.failCapture p).cycle = s.cycle ∧ (s.failCapture p).cure = s.cure ∧
    (s.failCapture p).ejector = s.ejector ∧ (s.failCapture p).ring = s.ring ∧
    (s.failCapture p).port = s.port ∧ (s.failCapture p).clocks = s.clocks ∧
    (s.failCapture p).inputs = s.inputs ∧ (s.failCapture p).timers = s.timers ∧
    (s.failCapture p).draws = s.draws ∧ (s.failCapture p).pending = s.pending :=
  ⟨rfl, rfl, rfl, rfl, rfl, rfl, rfl, rfl, rfl, rfl, rfl, rfl, rfl, rfl, rfl, rfl⟩

/-- `changeQueue` may change queue, cycle alone. -/
@[simp] theorem State.changeQueue_frame (q : List ChargeEntry) :
    (s.changeQueue q).tools = s.tools ∧ (s.changeQueue q).rates = s.rates ∧
    (s.changeQueue q).zones = s.zones ∧ (s.changeQueue q).drive = s.drive ∧
    (s.changeQueue q).heaters = s.heaters ∧ (s.changeQueue q).scale = s.scale ∧
    (s.changeQueue q).cure = s.cure ∧ (s.changeQueue q).ejector = s.ejector ∧
    (s.changeQueue q).ring = s.ring ∧ (s.changeQueue q).port = s.port ∧
    (s.changeQueue q).notices = s.notices ∧ (s.changeQueue q).clocks = s.clocks ∧
    (s.changeQueue q).inputs = s.inputs ∧ (s.changeQueue q).timers = s.timers ∧
    (s.changeQueue q).draws = s.draws ∧ (s.changeQueue q).pending = s.pending :=
  by unfold State.changeQueue; split <;> exact ⟨rfl, rfl, rfl, rfl, rfl, rfl, rfl, rfl, rfl, rfl, rfl, rfl, rfl, rfl, rfl, rfl⟩

/-- `changeRing` may change ring, cycle alone. -/
@[simp] theorem State.changeRing_frame (r : Ring) :
    (s.changeRing r).tools = s.tools ∧ (s.changeRing r).rates = s.rates ∧
    (s.changeRing r).zones = s.zones ∧ (s.changeRing r).drive = s.drive ∧
    (s.changeRing r).heaters = s.heaters ∧ (s.changeRing r).scale = s.scale ∧
    (s.changeRing r).queue = s.queue ∧ (s.changeRing r).cure = s.cure ∧
    (s.changeRing r).ejector = s.ejector ∧ (s.changeRing r).port = s.port ∧
    (s.changeRing r).notices = s.notices ∧ (s.changeRing r).clocks = s.clocks ∧
    (s.changeRing r).inputs = s.inputs ∧ (s.changeRing r).timers = s.timers ∧
    (s.changeRing r).draws = s.draws ∧ (s.changeRing r).pending = s.pending :=
  by unfold State.changeRing; split <;> exact ⟨rfl, rfl, rfl, rfl, rfl, rfl, rfl, rfl, rfl, rfl, rfl, rfl, rfl, rfl, rfl, rfl⟩

/-- `dropCharges` may change queue, notices alone. -/
@[simp] theorem State.dropCharges_frame :
    s.dropCharges.tools = s.tools ∧ s.dropCharges.rates = s.rates ∧ s.dropCharges.zones = s.zones ∧
    s.dropCharges.drive = s.drive ∧ s.dropCharges.heaters = s.heaters ∧
    s.dropCharges.scale = s.scale ∧ s.dropCharges.cycle = s.cycle ∧ s.dropCharges.cure = s.cure ∧
    s.dropCharges.ejector = s.ejector ∧ s.dropCharges.ring = s.ring ∧ s.dropCharges.port = s.port ∧
    s.dropCharges.clocks = s.clocks ∧ s.dropCharges.inputs = s.inputs ∧
    s.dropCharges.timers = s.timers ∧ s.dropCharges.draws = s.draws ∧
    s.dropCharges.pending = s.pending :=
  by unfold State.dropCharges; split <;> exact ⟨rfl, rfl, rfl, rfl, rfl, rfl, rfl, rfl, rfl, rfl, rfl, rfl, rfl, rfl, rfl, rfl⟩

/-- `cancelWaiting` may change scale, timers alone. -/
@[simp] theorem State.cancelWaiting_frame :
    s.cancelWaiting.tools = s.tools ∧ s.cancelWaiting.rates = s.rates ∧
    s.cancelWaiting.zones = s.zones ∧ s.cancelWaiting.drive = s.drive ∧
    s.cancelWaiting.heaters = s.heaters ∧ s.cancelWaiting.queue = s.queue ∧
    s.cancelWaiting.cycle = s.cycle ∧ s.cancelWaiting.cure = s.cure ∧
    s.cancelWaiting.ejector = s.ejector ∧ s.cancelWaiting.ring = s.ring ∧
    s.cancelWaiting.port = s.port ∧ s.cancelWaiting.notices = s.notices ∧
    s.cancelWaiting.clocks = s.clocks ∧ s.cancelWaiting.inputs = s.inputs ∧
    s.cancelWaiting.draws = s.draws ∧ s.cancelWaiting.pending = s.pending :=
  by unfold State.cancelWaiting; split <;> exact ⟨rfl, rfl, rfl, rfl, rfl, rfl, rfl, rfl, rfl, rfl, rfl, rfl, rfl, rfl, rfl, rfl⟩

/-- `releaseStation` may change scale, timers, queue, notices alone. -/
@[simp] theorem State.releaseStation_frame :
    s.releaseStation.tools = s.tools ∧ s.releaseStation.rates = s.rates ∧
    s.releaseStation.zones = s.zones ∧ s.releaseStation.drive = s.drive ∧
    s.releaseStation.heaters = s.heaters ∧ s.releaseStation.cycle = s.cycle ∧
    s.releaseStation.cure = s.cure ∧ s.releaseStation.ejector = s.ejector ∧
    s.releaseStation.ring = s.ring ∧ s.releaseStation.port = s.port ∧
    s.releaseStation.clocks = s.clocks ∧ s.releaseStation.inputs = s.inputs ∧
    s.releaseStation.draws = s.draws ∧ s.releaseStation.pending = s.pending :=
  by simp [State.releaseStation]

/-- `unmountFormer` may change scale, timers, queue, notices alone. -/
@[simp] theorem State.unmountFormer_frame :
    s.unmountFormer.tools = s.tools ∧ s.unmountFormer.rates = s.rates ∧
    s.unmountFormer.zones = s.zones ∧ s.unmountFormer.drive = s.drive ∧
    s.unmountFormer.heaters = s.heaters ∧ s.unmountFormer.cycle = s.cycle ∧
    s.unmountFormer.cure = s.cure ∧ s.unmountFormer.ejector = s.ejector ∧
    s.unmountFormer.ring = s.ring ∧ s.unmountFormer.port = s.port ∧
    s.unmountFormer.clocks = s.clocks ∧ s.unmountFormer.inputs = s.inputs ∧
    s.unmountFormer.draws = s.draws ∧ s.unmountFormer.pending = s.pending :=
  by unfold State.unmountFormer; split <;> simp

/-- `promote` may change tools, notices alone. -/
@[simp] theorem State.promote_frame (i : SlotIx) :
    (s.promote i).rates = s.rates ∧ (s.promote i).zones = s.zones ∧ (s.promote i).drive = s.drive ∧
    (s.promote i).heaters = s.heaters ∧ (s.promote i).scale = s.scale ∧
    (s.promote i).queue = s.queue ∧ (s.promote i).cycle = s.cycle ∧ (s.promote i).cure = s.cure ∧
    (s.promote i).ejector = s.ejector ∧ (s.promote i).ring = s.ring ∧ (s.promote i).port = s.port ∧
    (s.promote i).clocks = s.clocks ∧ (s.promote i).inputs = s.inputs ∧
    (s.promote i).timers = s.timers ∧ (s.promote i).draws = s.draws ∧
    (s.promote i).pending = s.pending :=
  by unfold State.promote; split <;> (try split) <;> exact ⟨rfl, rfl, rfl, rfl, rfl, rfl, rfl, rfl, rfl, rfl, rfl, rfl, rfl, rfl, rfl, rfl⟩

/-- `closeRecord` may change ring, notices, cycle alone. -/
@[simp] theorem State.closeRecord_frame :
    s.closeRecord.tools = s.tools ∧ s.closeRecord.rates = s.rates ∧ s.closeRecord.zones = s.zones ∧
    s.closeRecord.drive = s.drive ∧ s.closeRecord.heaters = s.heaters ∧
    s.closeRecord.scale = s.scale ∧ s.closeRecord.queue = s.queue ∧ s.closeRecord.cure = s.cure ∧
    s.closeRecord.ejector = s.ejector ∧ s.closeRecord.port = s.port ∧
    s.closeRecord.clocks = s.clocks ∧ s.closeRecord.inputs = s.inputs ∧
    s.closeRecord.timers = s.timers ∧ s.closeRecord.draws = s.draws ∧
    s.closeRecord.pending = s.pending :=
  by unfold State.closeRecord; split <;> exact ⟨rfl, rfl, rfl, rfl, rfl, rfl, rfl, rfl, rfl, rfl, rfl, rfl, rfl, rfl, rfl⟩

/-- `admitCharge` may change scale, queue, cycle, notices alone. -/
@[simp] theorem State.admit_frame (p : Snapshot) :
    (s.admitCharge p).tools = s.tools ∧ (s.admitCharge p).rates = s.rates ∧ (s.admitCharge p).zones = s.zones ∧
    (s.admitCharge p).drive = s.drive ∧ (s.admitCharge p).heaters = s.heaters ∧ (s.admitCharge p).cure = s.cure ∧
    (s.admitCharge p).ejector = s.ejector ∧ (s.admitCharge p).ring = s.ring ∧ (s.admitCharge p).port = s.port ∧
    (s.admitCharge p).clocks = s.clocks ∧ (s.admitCharge p).inputs = s.inputs ∧ (s.admitCharge p).timers = s.timers ∧
    (s.admitCharge p).draws = s.draws ∧ (s.admitCharge p).pending = s.pending :=
  by simp [State.admitCharge]

/-- `captureOutcome` may change scale, queue, cycle, notices alone. -/
@[simp] theorem State.captureOutcome_frame (p : Snapshot) :
    (s.captureOutcome p).tools = s.tools ∧ (s.captureOutcome p).rates = s.rates ∧
    (s.captureOutcome p).zones = s.zones ∧ (s.captureOutcome p).drive = s.drive ∧
    (s.captureOutcome p).heaters = s.heaters ∧ (s.captureOutcome p).cure = s.cure ∧
    (s.captureOutcome p).ejector = s.ejector ∧ (s.captureOutcome p).ring = s.ring ∧
    (s.captureOutcome p).port = s.port ∧ (s.captureOutcome p).clocks = s.clocks ∧
    (s.captureOutcome p).inputs = s.inputs ∧ (s.captureOutcome p).timers = s.timers ∧
    (s.captureOutcome p).draws = s.draws ∧ (s.captureOutcome p).pending = s.pending :=
  by unfold State.captureOutcome; split <;> (try split) <;> simp

/-- `finishMeasurement` may change scale, notices alone. -/
@[simp] theorem State.finishMeasurement_frame (m : Measurement) :
    (s.finishMeasurement m).tools = s.tools ∧ (s.finishMeasurement m).rates = s.rates ∧
    (s.finishMeasurement m).zones = s.zones ∧ (s.finishMeasurement m).drive = s.drive ∧
    (s.finishMeasurement m).heaters = s.heaters ∧ (s.finishMeasurement m).queue = s.queue ∧
    (s.finishMeasurement m).cycle = s.cycle ∧ (s.finishMeasurement m).cure = s.cure ∧
    (s.finishMeasurement m).ejector = s.ejector ∧ (s.finishMeasurement m).ring = s.ring ∧
    (s.finishMeasurement m).port = s.port ∧ (s.finishMeasurement m).clocks = s.clocks ∧
    (s.finishMeasurement m).inputs = s.inputs ∧ (s.finishMeasurement m).timers = s.timers ∧
    (s.finishMeasurement m).draws = s.draws ∧ (s.finishMeasurement m).pending = s.pending :=
  by unfold State.finishMeasurement; split <;> (try dsimp only) <;> (repeat' split) <;> simp

/-- `measure` may change scale, notices alone. -/
@[simp] theorem State.measure_frame (c : Int) (m : Measurement) :
    (s.measure c m).tools = s.tools ∧ (s.measure c m).rates = s.rates ∧
    (s.measure c m).zones = s.zones ∧ (s.measure c m).drive = s.drive ∧
    (s.measure c m).heaters = s.heaters ∧ (s.measure c m).queue = s.queue ∧
    (s.measure c m).cycle = s.cycle ∧ (s.measure c m).cure = s.cure ∧
    (s.measure c m).ejector = s.ejector ∧ (s.measure c m).ring = s.ring ∧
    (s.measure c m).port = s.port ∧ (s.measure c m).clocks = s.clocks ∧
    (s.measure c m).inputs = s.inputs ∧ (s.measure c m).timers = s.timers ∧
    (s.measure c m).draws = s.draws ∧ (s.measure c m).pending = s.pending :=
  by unfold State.measure; split <;> (try dsimp only) <;> (try split) <;> simp

/-- `actOnCapture` may change scale, queue, cycle, notices alone. -/
@[simp] theorem State.actOnCapture_frame (b : LoadState) (c : Int) :
    (s.actOnCapture b c).tools = s.tools ∧ (s.actOnCapture b c).rates = s.rates ∧
    (s.actOnCapture b c).zones = s.zones ∧ (s.actOnCapture b c).drive = s.drive ∧
    (s.actOnCapture b c).heaters = s.heaters ∧ (s.actOnCapture b c).cure = s.cure ∧
    (s.actOnCapture b c).ejector = s.ejector ∧ (s.actOnCapture b c).ring = s.ring ∧
    (s.actOnCapture b c).port = s.port ∧ (s.actOnCapture b c).clocks = s.clocks ∧
    (s.actOnCapture b c).inputs = s.inputs ∧ (s.actOnCapture b c).timers = s.timers ∧
    (s.actOnCapture b c).draws = s.draws ∧ (s.actOnCapture b c).pending = s.pending :=
  by unfold State.actOnCapture; (repeat' split) <;> simp

/-- `sampleBridge` may change scale, queue, cycle, notices, timers alone. -/
@[simp] theorem State.sampleBridge_frame (n : BitVec 24) :
    (s.sampleBridge n).tools = s.tools ∧ (s.sampleBridge n).rates = s.rates ∧
    (s.sampleBridge n).zones = s.zones ∧ (s.sampleBridge n).drive = s.drive ∧
    (s.sampleBridge n).heaters = s.heaters ∧ (s.sampleBridge n).cure = s.cure ∧
    (s.sampleBridge n).ejector = s.ejector ∧ (s.sampleBridge n).ring = s.ring ∧
    (s.sampleBridge n).port = s.port ∧ (s.sampleBridge n).clocks = s.clocks ∧
    (s.sampleBridge n).inputs = s.inputs ∧ (s.sampleBridge n).draws = s.draws ∧
    (s.sampleBridge n).pending = s.pending :=
  by simp [State.sampleBridge]

/-- `postZone` may change notices alone. -/
@[simp] theorem State.postZone_frame (z : ZoneIx) (l : List (NoticeKind × Option Int)) :
    (s.postZone z l).tools = s.tools ∧ (s.postZone z l).rates = s.rates ∧
    (s.postZone z l).zones = s.zones ∧ (s.postZone z l).drive = s.drive ∧
    (s.postZone z l).heaters = s.heaters ∧ (s.postZone z l).scale = s.scale ∧
    (s.postZone z l).queue = s.queue ∧ (s.postZone z l).cycle = s.cycle ∧
    (s.postZone z l).cure = s.cure ∧ (s.postZone z l).ejector = s.ejector ∧
    (s.postZone z l).ring = s.ring ∧ (s.postZone z l).port = s.port ∧
    (s.postZone z l).clocks = s.clocks ∧ (s.postZone z l).inputs = s.inputs ∧
    (s.postZone z l).timers = s.timers ∧ (s.postZone z l).draws = s.draws ∧
    (s.postZone z l).pending = s.pending :=
  by obtain ⟨q, h⟩ := s.postZone_spec z l; rw [h]; exact ⟨rfl, rfl, rfl, rfl, rfl, rfl, rfl, rfl, rfl, rfl, rfl, rfl, rfl, rfl, rfl, rfl, rfl⟩

/-- `applyZone` may change zones, heaters, notices, cycle alone. -/
@[simp] theorem State.applyZone_frame (z : ZoneIx) (f : ZoneStep → ZoneStep) :
    (s.applyZone z f).tools = s.tools ∧ (s.applyZone z f).rates = s.rates ∧
    (s.applyZone z f).drive = s.drive ∧ (s.applyZone z f).scale = s.scale ∧
    (s.applyZone z f).queue = s.queue ∧ (s.applyZone z f).cure = s.cure ∧
    (s.applyZone z f).ejector = s.ejector ∧ (s.applyZone z f).ring = s.ring ∧
    (s.applyZone z f).port = s.port ∧ (s.applyZone z f).clocks = s.clocks ∧
    (s.applyZone z f).inputs = s.inputs ∧ (s.applyZone z f).timers = s.timers ∧
    (s.applyZone z f).draws = s.draws ∧ (s.applyZone z f).pending = s.pending :=
  by unfold State.applyZone; dsimp only; split <;> simp

/-- `applyZones` may change zones, heaters, notices, draws alone. -/
@[simp] theorem State.applyZones_frame (f : ZoneIx → ZoneStep → ZoneStep) :
    (s.applyZones f).tools = s.tools ∧ (s.applyZones f).rates = s.rates ∧
    (s.applyZones f).drive = s.drive ∧ (s.applyZones f).scale = s.scale ∧
    (s.applyZones f).queue = s.queue ∧ (s.applyZones f).cycle = s.cycle ∧
    (s.applyZones f).cure = s.cure ∧ (s.applyZones f).ejector = s.ejector ∧
    (s.applyZones f).ring = s.ring ∧ (s.applyZones f).port = s.port ∧
    (s.applyZones f).clocks = s.clocks ∧ (s.applyZones f).inputs = s.inputs ∧
    (s.applyZones f).timers = s.timers ∧ (s.applyZones f).pending = s.pending :=
  by obtain ⟨q, h⟩ := s.applyZones_spec f; rw [h]; simp

/-- `followZones` may change zones, heaters, notices, draws alone. -/
@[simp] theorem State.followZones_frame :
    s.followZones.tools = s.tools ∧ s.followZones.rates = s.rates ∧ s.followZones.drive = s.drive ∧
    s.followZones.scale = s.scale ∧ s.followZones.queue = s.queue ∧ s.followZones.cycle = s.cycle ∧
    s.followZones.cure = s.cure ∧ s.followZones.ejector = s.ejector ∧ s.followZones.ring = s.ring ∧
    s.followZones.port = s.port ∧ s.followZones.clocks = s.clocks ∧
    s.followZones.inputs = s.inputs ∧ s.followZones.timers = s.timers ∧
    s.followZones.pending = s.pending :=
  by simp [State.followZones]

/-- `setWorkings` may change zones, heaters, notices, draws alone. -/
@[simp] theorem State.setWorkings_frame :
    s.setWorkings.tools = s.tools ∧ s.setWorkings.rates = s.rates ∧ s.setWorkings.drive = s.drive ∧
    s.setWorkings.scale = s.scale ∧ s.setWorkings.queue = s.queue ∧ s.setWorkings.cycle = s.cycle ∧
    s.setWorkings.cure = s.cure ∧ s.setWorkings.ejector = s.ejector ∧ s.setWorkings.ring = s.ring ∧
    s.setWorkings.port = s.port ∧ s.setWorkings.clocks = s.clocks ∧
    s.setWorkings.inputs = s.inputs ∧ s.setWorkings.timers = s.timers ∧
    s.setWorkings.pending = s.pending :=
  by simp [State.setWorkings]

/-- `promoteMounted` may change tools, notices, zones, heaters, draws alone. -/
@[simp] theorem State.promoteMounted_frame :
    s.promoteMounted.rates = s.rates ∧ s.promoteMounted.drive = s.drive ∧
    s.promoteMounted.scale = s.scale ∧ s.promoteMounted.queue = s.queue ∧
    s.promoteMounted.cycle = s.cycle ∧ s.promoteMounted.cure = s.cure ∧
    s.promoteMounted.ejector = s.ejector ∧ s.promoteMounted.ring = s.ring ∧
    s.promoteMounted.port = s.port ∧ s.promoteMounted.clocks = s.clocks ∧
    s.promoteMounted.inputs = s.inputs ∧ s.promoteMounted.timers = s.timers ∧
    s.promoteMounted.pending = s.pending :=
  by unfold State.promoteMounted; split <;> (try split) <;> simp

/-- `closeCycle` may change ring, notices, cycle, cure, timers, tools, zones, heaters, draws alone. -/
@[simp] theorem State.closeCycle_frame :
    s.closeCycle.rates = s.rates ∧ s.closeCycle.drive = s.drive ∧ s.closeCycle.scale = s.scale ∧
    s.closeCycle.queue = s.queue ∧ s.closeCycle.ejector = s.ejector ∧ s.closeCycle.port = s.port ∧
    s.closeCycle.clocks = s.clocks ∧ s.closeCycle.inputs = s.inputs ∧
    s.closeCycle.pending = s.pending :=
  by simp [State.closeCycle]

/-- `enterTakeout` may change ring, notices, cycle, cure, timers, tools, zones, heaters, draws alone. -/
@[simp] theorem State.enterTakeout_frame :
    s.enterTakeout.rates = s.rates ∧ s.enterTakeout.drive = s.drive ∧
    s.enterTakeout.scale = s.scale ∧ s.enterTakeout.queue = s.queue ∧
    s.enterTakeout.ejector = s.ejector ∧ s.enterTakeout.port = s.port ∧
    s.enterTakeout.clocks = s.clocks ∧ s.enterTakeout.inputs = s.inputs ∧
    s.enterTakeout.pending = s.pending :=
  by unfold State.enterTakeout; dsimp only; split <;> simp

/-- `endSequence` may change ring, notices, cycle, cure, timers, tools, zones, heaters, draws, ejector alone. -/
@[simp] theorem State.endSequence_frame :
    s.endSequence.rates = s.rates ∧ s.endSequence.drive = s.drive ∧ s.endSequence.scale = s.scale ∧
    s.endSequence.queue = s.queue ∧ s.endSequence.port = s.port ∧ s.endSequence.clocks = s.clocks ∧
    s.endSequence.inputs = s.inputs ∧ s.endSequence.pending = s.pending :=
  by simp [State.endSequence]

/-- `abandonSequence` may change ring, notices, cycle, cure, timers, tools, zones, heaters, draws, ejector alone. -/
@[simp] theorem State.abandonSequence_frame :
    s.abandonSequence.rates = s.rates ∧ s.abandonSequence.drive = s.drive ∧
    s.abandonSequence.scale = s.scale ∧ s.abandonSequence.queue = s.queue ∧
    s.abandonSequence.port = s.port ∧ s.abandonSequence.clocks = s.clocks ∧
    s.abandonSequence.inputs = s.inputs ∧ s.abandonSequence.pending = s.pending :=
  by simp [State.abandonSequence]

/-- `judgeBack` may change ring, notices, cycle, cure, timers, tools, zones, heaters, draws, ejector alone. -/
@[simp] theorem State.judgeBack_frame :
    s.judgeBack.rates = s.rates ∧ s.judgeBack.drive = s.drive ∧ s.judgeBack.scale = s.scale ∧
    s.judgeBack.queue = s.queue ∧ s.judgeBack.port = s.port ∧ s.judgeBack.clocks = s.clocks ∧
    s.judgeBack.inputs = s.inputs ∧ s.judgeBack.pending = s.pending :=
  by unfold State.judgeBack; (repeat' split) <;> simp

/-- `retract` may change ring, notices, cycle, cure, timers, tools, zones, heaters, draws, ejector alone. -/
@[simp] theorem State.retract_frame (b : Bool) :
    (s.retract b).rates = s.rates ∧ (s.retract b).drive = s.drive ∧ (s.retract b).scale = s.scale ∧
    (s.retract b).queue = s.queue ∧ (s.retract b).port = s.port ∧ (s.retract b).clocks = s.clocks ∧
    (s.retract b).inputs = s.inputs ∧ (s.retract b).pending = s.pending :=
  by simp [State.retract]

/-- `enterEjecting` may change cycle, ejector, timers alone. -/
@[simp] theorem State.enterEjecting_frame :
    s.enterEjecting.tools = s.tools ∧ s.enterEjecting.rates = s.rates ∧
    s.enterEjecting.zones = s.zones ∧ s.enterEjecting.drive = s.drive ∧
    s.enterEjecting.heaters = s.heaters ∧ s.enterEjecting.scale = s.scale ∧
    s.enterEjecting.queue = s.queue ∧ s.enterEjecting.cure = s.cure ∧
    s.enterEjecting.ring = s.ring ∧ s.enterEjecting.port = s.port ∧
    s.enterEjecting.notices = s.notices ∧ s.enterEjecting.clocks = s.clocks ∧
    s.enterEjecting.inputs = s.inputs ∧ s.enterEjecting.draws = s.draws ∧
    s.enterEjecting.pending = s.pending :=
  ⟨rfl, rfl, rfl, rfl, rfl, rfl, rfl, rfl, rfl, rfl, rfl, rfl, rfl, rfl, rfl⟩

/-- `leaveRelease` may change cycle, ejector, timers alone. -/
@[simp] theorem State.leaveRelease_frame :
    s.leaveRelease.tools = s.tools ∧ s.leaveRelease.rates = s.rates ∧
    s.leaveRelease.zones = s.zones ∧ s.leaveRelease.drive = s.drive ∧
    s.leaveRelease.heaters = s.heaters ∧ s.leaveRelease.scale = s.scale ∧
    s.leaveRelease.queue = s.queue ∧ s.leaveRelease.cure = s.cure ∧ s.leaveRelease.ring = s.ring ∧
    s.leaveRelease.port = s.port ∧ s.leaveRelease.notices = s.notices ∧
    s.leaveRelease.clocks = s.clocks ∧ s.leaveRelease.inputs = s.inputs ∧
    s.leaveRelease.draws = s.draws ∧ s.leaveRelease.pending = s.pending :=
  by unfold State.leaveRelease; split <;> simp

/-- `enterRelease` may change ring, timers, cycle, ejector alone. -/
@[simp] theorem State.enterRelease_frame :
    s.enterRelease.tools = s.tools ∧ s.enterRelease.rates = s.rates ∧
    s.enterRelease.zones = s.zones ∧ s.enterRelease.drive = s.drive ∧
    s.enterRelease.heaters = s.heaters ∧ s.enterRelease.scale = s.scale ∧
    s.enterRelease.queue = s.queue ∧ s.enterRelease.cure = s.cure ∧ s.enterRelease.port = s.port ∧
    s.enterRelease.notices = s.notices ∧ s.enterRelease.clocks = s.clocks ∧
    s.enterRelease.inputs = s.inputs ∧ s.enterRelease.draws = s.draws ∧
    s.enterRelease.pending = s.pending :=
  by simp [State.enterRelease]

/-- `stopCure` may change ring, cure, timers, cycle, ejector alone. -/
@[simp] theorem State.stopCure_frame :
    s.stopCure.tools = s.tools ∧ s.stopCure.rates = s.rates ∧ s.stopCure.zones = s.zones ∧
    s.stopCure.drive = s.drive ∧ s.stopCure.heaters = s.heaters ∧ s.stopCure.scale = s.scale ∧
    s.stopCure.queue = s.queue ∧ s.stopCure.port = s.port ∧ s.stopCure.notices = s.notices ∧
    s.stopCure.clocks = s.clocks ∧ s.stopCure.inputs = s.inputs ∧ s.stopCure.draws = s.draws ∧
    s.stopCure.pending = s.pending :=
  by simp [State.stopCure]

/-- `leaveLoading` may change ring, notices, cycle, cure, timers, tools, zones, heaters, draws alone. -/
@[simp] theorem State.leaveLoading_frame :
    s.leaveLoading.rates = s.rates ∧ s.leaveLoading.drive = s.drive ∧
    s.leaveLoading.scale = s.scale ∧ s.leaveLoading.queue = s.queue ∧
    s.leaveLoading.ejector = s.ejector ∧ s.leaveLoading.port = s.port ∧
    s.leaveLoading.clocks = s.clocks ∧ s.leaveLoading.inputs = s.inputs ∧
    s.leaveLoading.pending = s.pending :=
  by simp [State.leaveLoading]

/-- `abandon` may change ring, notices, cycle, cure, timers, tools, zones, heaters, draws, ejector alone. -/
@[simp] theorem State.abandon_frame :
    s.abandon.rates = s.rates ∧ s.abandon.drive = s.drive ∧ s.abandon.scale = s.scale ∧
    s.abandon.queue = s.queue ∧ s.abandon.port = s.port ∧ s.abandon.clocks = s.clocks ∧
    s.abandon.inputs = s.inputs ∧ s.abandon.pending = s.pending :=
  by unfold State.abandon; split <;> simp

/-- `abortCycle` may change ring, notices, cycle, cure, timers, tools, zones, heaters, draws, ejector alone. -/
@[simp] theorem State.abortCycle_frame :
    s.abortCycle.rates = s.rates ∧ s.abortCycle.drive = s.drive ∧ s.abortCycle.scale = s.scale ∧
    s.abortCycle.queue = s.queue ∧ s.abortCycle.port = s.port ∧ s.abortCycle.clocks = s.clocks ∧
    s.abortCycle.inputs = s.inputs ∧ s.abortCycle.pending = s.pending :=
  by unfold State.abortCycle; split <;> simp

end Sys2Proof.Machine
end

