-- ==== Sys2Proof/Laws/Ops.lean ====
section
/-! SUPPORT. What each shared operation can do, said once: one lemma for each, which a proof cites instead of
unfolding the operation. Frames.lean says what an operation leaves alone. -/

namespace Sys2Proof.Machine

variable (s : State)

/-! ## Notices and the open record -/

/-- A push with a place free appends; a push to a full queue drops and sets the marker; ATTN is asserted. -/
theorem NoticeQueue.push_cases (q : NoticeQueue) (n : Notice) :
    (q.list.length < 16 ∧ q.push n = ⟨q.list ++ [n], q.lapsed, true⟩)
      ∨ (16 ≤ q.list.length ∧ q.push n = ⟨q.list, true, true⟩) := by
  by_cases h : q.list.length < 16
  · exact .inl ⟨h, by simp [NoticeQueue.push, NoticeQueue.driven, Config.noticePlaces, h]⟩
  · exact .inr ⟨by omega, by simp [NoticeQueue.push, NoticeQueue.driven, Config.noticePlaces, h]⟩

/-- A posted notice is the newest if a place is free. -/
theorem State.post_list (kind : NoticeKind) (subject : Subject) (value : Option Int) (h : s.notices.list.length < 16) :
    (s.post kind subject value).notices.list = s.notices.list ++ [⟨kind, s.clocks.part, subject, value⟩] := by
  simp [State.post, NoticeQueue.push, NoticeQueue.driven, Config.noticePlaces, h]

/-- A post keeps the notice queue sound. -/
theorem State.post_noticeInv (kind : NoticeKind) (subject : Subject) (value : Option Int) (h : NoticeInv s) :
    NoticeInv (s.post kind subject value) := by
  obtain ⟨places, _⟩ := h
  obtain ⟨g, e⟩ | ⟨g, e⟩ := s.notices.push_cases ⟨kind, s.clocks.part, subject, value⟩ <;>
    exact ⟨by simp [State.post, e]; omega, by simp [State.post, e]⟩

/-- Every record stands in its place after a write to the open one. -/
@[simp] theorem State.updateOpen_records (f : PartRecord → PartRecord) :
    (s.updateOpen f).ring.records = s.ring.records.map (fun r => if r.opened then f r else r) := rfl

/-- A write to the open record leaves the next serial. -/
@[simp] theorem State.updateOpen_nextSerial (f : PartRecord → PartRecord) :
    (s.updateOpen f).ring.nextSerial = s.ring.nextSerial := rfl

/-- With no record open nothing is written (R141). -/
theorem State.updateOpen_none (f : PartRecord → PartRecord) (h : ∀ r ∈ s.ring.records, r.opened = false) :
    s.updateOpen f = s := by
  have e : s.ring.records.map (fun r => if r.opened then f r else r) = s.ring.records :=
    List.map_congr_left (fun r m => by simp [h r m]) |>.trans (List.map_id _)
  simp only [State.updateOpen, e]
  exact s.setRing_self

/-- The record found open is in the ring and is open. -/
theorem State.openRecord_some (r : PartRecord) (h : s.openRecord = some r) : r ∈ s.ring.records ∧ r.opened = true :=
  ⟨List.mem_of_find?_eq_some h, by simpa using List.find?_some h⟩

/-- A write that leaves the record open is found in the open record. -/
theorem State.updateOpen_openRecord (f : PartRecord → PartRecord) (keeps : ∀ r, (f r).opened = r.opened) :
    (s.updateOpen f).openRecord = s.openRecord.map f := by
  unfold State.openRecord
  rw [s.updateOpen_records]
  induction s.ring.records with
  | nil => rfl
  | cons r rest ih => cases h : r.opened <;> simp_all

/-- The close of a record: the open one is CLOSED with its take-out time, or there was none (R143). -/
theorem State.closeRecord_cases :
    (s.openRecord = none ∧ s.closeRecord = s)
      ∨ ∃ r, s.openRecord = some r
        ∧ s.closeRecord.ring = { s.ring with records := s.ring.records.map (fun q =>
            if q.opened then { q with opened := false, takeoutTime := some s.clocks.part } else q) }
        ∧ s.closeRecord.cycle = { s.cycle with clean := r.verdict }
        ∧ s.closeRecord.notices
          = s.notices.push ⟨.partClosed, s.clocks.part, .serial r.serial, some (if r.verdict then 1 else 0)⟩ := by
  cases h : s.openRecord with
  | none => exact .inl ⟨rfl, by simp [State.closeRecord, h]⟩
  | some r => exact .inr ⟨r, rfl, by simp [State.closeRecord, h, State.updateOpen, State.post],
      by simp [State.closeRecord, h], by simp [State.closeRecord, h, State.post]⟩

/-! ## The cycle controller -/

/-- Outside STANDBY and READY nothing is evaluated (R95). -/
theorem State.evaluate_other (h : s.cycle.state.waits = false) : s.evaluate = s := by
  simp [State.evaluate, h]

/-- In STANDBY and READY the reasons become the conditions and decide the state (R94, R95). -/
theorem State.evaluate_waits (h : s.cycle.state.waits = true) :
    s.evaluate = s.setCycle { s.cycle with
      reasons := s.conditions, ready := s.conditions.isNone
      state := if s.conditions.isNone then .ready else .standby } := by
  simp [State.evaluate, h, Cycle.evaluated]

/-- The conditions are read from six fields, none of which an evaluation changes. -/
@[simp] theorem State.evaluate_conditions : s.evaluate.conditions = s.conditions := by
  by_cases h : s.cycle.state.waits = true
  · rw [s.evaluate_waits h]
    simp [State.conditions, State.usesZone, State.mountedTool, State.cavityCount]
  · rw [s.evaluate_other (by simpa using h)]

/-- An evaluation is the agreement the statements speak of. -/
theorem State.evaluate_reevaluated : Reevaluated s s.evaluate := by
  unfold Reevaluated
  by_cases h : s.cycle.state.waits = true
  · rw [s.evaluate_conditions, s.evaluate_waits h]; simp [h]
  · rw [s.evaluate_other (by simpa using h)]; simp [h]

/-- An entered state has no ready reasons and its permits by R99. -/
theorem State.enter_cycle (st : CycleState) :
    (s.enter st).cycle = { s.cycle with
      state := st, reasons := ReadyReasons.none, ready := false
      closePermit := st == .loading && s.inputs.ejectAtBack && !s.inputs.eStop
      openPermit := st == .release && !s.inputs.eStop } := rfl

/-- TAKEOUT is entered, and left at once with TAKEOUT_CLEAR asserted (R104). -/
theorem State.enterTakeout_cases :
    (s.inputs.takeoutClear = false ∧ s.enterTakeout = s.enter .takeout)
      ∨ (s.inputs.takeoutClear = true ∧ s.enterTakeout = (s.enter .takeout).closeCycle) := by
  cases h : s.inputs.takeoutClear <;> simp [State.enterTakeout, h]

/-- The records after a close: the open one CLOSED with its take-out time, or all as they were (R143). -/
theorem State.closeRecord_ring : s.closeRecord.ring = { s.ring with records := s.ring.records.map (fun q =>
    if q.opened then { q with opened := false, takeoutTime := some s.clocks.part } else q) } := by
  obtain ⟨h, e⟩ | ⟨_, _, e, _⟩ := s.closeRecord_cases
  · rw [State.openRecord, List.find?_eq_none] at h
    rw [e, List.map_congr_left (g := id) (fun q m => by simp [h q m]), List.map_id]
  · exact e

/-- What the close of a cycle leaves (R96, R104, R111, R143). -/
theorem State.closeCycle_leaves :
    s.closeCycle.ring = s.closeRecord.ring ∧ s.closeCycle.cycle.state.waits = true ∧ s.closeCycle.cure = Cure.reset
      ∧ ∀ r, s.openRecord = some r → s.closeCycle.cycle.clean = r.verdict := by
  have w : ∀ u : State, (u.enter .standby).evaluate.cycle.state.waits = true
      ∧ (u.enter .standby).evaluate.cycle.clean = u.cycle.clean := by
    intro u
    rw [State.evaluate_waits _ rfl]
    exact ⟨by simp only [State.setCycle_cycle]; split <;> rfl, rfl⟩
  refine ⟨by simp [State.closeCycle, State.idleCure], (w _).1, by simp [State.closeCycle, State.idleCure], ?_⟩
  intro r h
  obtain ⟨g, _⟩ | ⟨q, g, _, e, _⟩ := s.closeRecord_cases
  · rw [g] at h; cases h
  · rw [g] at h; cases h
    rw [State.closeCycle, (w _).2]
    simp [State.idleCure, e]

/-- What the entry to TAKEOUT leaves: with TAKEOUT_CLEAR negated TAKEOUT and the open record, and with it asserted a closed
cycle (R104). -/
theorem State.enterTakeout_leaves :
    s.enterTakeout.ring = { s.ring with records := s.ring.records.map (fun q => if q.opened then { q with
        opened := !s.inputs.takeoutClear
        takeoutTime := if s.inputs.takeoutClear then some s.clocks.part else q.takeoutTime } else q) }
      ∧ (if s.inputs.takeoutClear then s.enterTakeout.cycle.state.waits = true ∧ s.enterTakeout.cure = Cure.reset
          ∧ ∀ r, s.openRecord = some r → s.enterTakeout.cycle.clean = r.verdict
        else s.enterTakeout.cycle.state = .takeout ∧ s.enterTakeout.cure = s.cure
          ∧ s.enterTakeout.cycle.clean = s.cycle.clean) := by
  obtain ⟨h, e⟩ | ⟨h, e⟩ := s.enterTakeout_cases
  · rw [e, h, List.map_congr_left (g := id) (by rintro ⟨_, o, _⟩ _; cases o <;> rfl), List.map_id]
    exact ⟨rfl, rfl, rfl, rfl⟩
  · obtain ⟨ring, waits, cure, clean⟩ := (s.enter .takeout).closeCycle_leaves
    rw [e, h, ring, State.closeRecord_ring]
    exact ⟨rfl, waits, cure, clean⟩

/-- RELEASE is left for EJECTING just when PRESS_OPEN is asserted and E_STOP negated (R102). -/
theorem State.leaveRelease_cases :
    (s.cycle.state = .release ∧ s.inputs.pressOpen = true ∧ s.inputs.eStop = false
        ∧ s.leaveRelease = s.enterEjecting)
      ∨ (¬(s.cycle.state = .release ∧ s.inputs.pressOpen = true ∧ s.inputs.eStop = false) ∧ s.leaveRelease = s) := by
  by_cases h : s.cycle.state = .release ∧ s.inputs.pressOpen = true ∧ s.inputs.eStop = false
  · exact .inl ⟨h.1, h.2.1, h.2.2, by simp [State.leaveRelease, h]⟩
  · refine .inr ⟨h, ?_⟩
    unfold State.leaveRelease
    rw [if_neg (by simpa using h)]

/-- In RETRACTING the back position decides by the rows of R130. -/
theorem State.judgeBack_cases :
    (s.inputs.ejectAtBack = false ∧ s.judgeBack = s)
      ∨ (s.inputs.ejectAtBack = true ∧
        ((s.ejector.abandonPending = true ∧ s.judgeBack = s.abandonSequence)
          ∨ (s.ejector.abandonPending = false ∧ s.ejector.stalledMark = true
            ∧ s.judgeBack = s.setEjector { s.ejector with sub := .stalled })
          ∨ (s.ejector.abandonPending = false ∧ s.ejector.stalledMark = false ∧ s.ejector.strokes < s.strokeCount
            ∧ s.judgeBack = s.beginStroke)
          ∨ (s.ejector.abandonPending = false ∧ s.ejector.stalledMark = false ∧ s.strokeCount ≤ s.ejector.strokes
            ∧ s.judgeBack = s.endSequence))) := by
  unfold State.judgeBack
  cases h1 : s.inputs.ejectAtBack <;> cases h2 : s.ejector.abandonPending <;> cases h3 : s.ejector.stalledMark <;>
    simp
  by_cases h4 : s.ejector.strokes < s.strokeCount
  · exact .inl ⟨h4, by simp [h4]⟩
  · exact .inr ⟨by omega, by simp [h4]⟩

/-! ## Queue, ring and tools -/

/-- A changed queue is stored, and an evaluation follows where the short cavities changed (R82). -/
theorem State.changeQueue_cases (q : List ChargeEntry) :
    s.changeQueue q = s.setQueue q ∧ shortCavities q s.cavityCount = shortCavities s.queue s.cavityCount
      ∨ s.changeQueue q = (s.setQueue q).evaluate := by
  unfold State.changeQueue
  split
  · exact .inl ⟨rfl, ‹_›⟩
  · exact .inr rfl

/-- A changed ring is stored, and an evaluation follows where its fullness or its spent serial changed (R147). -/
theorem State.changeRing_cases (r : Ring) :
    s.changeRing r = s.setRing r ∧ decide (48 ≤ r.records.length) = decide (48 ≤ s.ring.records.length)
        ∧ r.nextSerial.isNone = s.ring.nextSerial.isNone
      ∨ s.changeRing r = (s.setRing r).evaluate := by
  unfold State.changeRing
  split
  · exact .inl ⟨rfl, ‹_ ∧ _›⟩
  · exact .inr rfl

/-- The oldest entry of a cavity is the first found, and it alone leaves the queue (R90). -/
theorem takeOldest_spec (cavity : Nat) (q : List ChargeEntry) :
    takeOldest cavity q = (q.find? (fun e => e.cavity == cavity)).map
      (fun e => (e, q.eraseP (fun e => e.cavity == cavity))) := by
  induction q with
  | nil => rfl
  | cons e rest ih =>
    by_cases h : e.cavity = cavity
    · simp [takeOldest, h]
    · have g : (e.cavity == cavity) = false := by simpa using h
      simp only [takeOldest, if_neg h, ih, List.find?_cons, g, List.eraseP_cons, Option.map_map]
      rfl

/-- A promotion changes one slot and posts its notice, or there was nothing staged (R10). -/
theorem State.promote_cases (i : SlotIx) :
    s.promote i = s ∨ ∃ t r, s.tools[i] = some t ∧ t.staged = some r
      ∧ s.promote i = (s.setTools (s.tools.set i (some (t.promoted r)))).post .recipePromoted .absent (some t.number) := by
  unfold State.promote
  split
  · exact .inl rfl
  · rename_i t h
    split
    · exact .inl rfl
    · rename_i r g
      exact .inr ⟨t, r, h, g, rfl⟩

/-! ## Zones -/

/-- An event of one zone sets its records, posts its notices, and may be followed by an evaluation. -/
theorem State.applyZone_cases (z : ZoneIx) (f : ZoneStep → ZoneStep) :
    let u := f (s.zoneStep z)
    let t := ((s.setZones (s.zones.set z u.zone)).setHeaters (s.heaters.set z u.heater)).postZone z u.posts
    (s.applyZone z f = t ∧ (s.usesZone z = false ∨ (s.zones[z].state = .settled ↔ u.zone.state = .settled)))
      ∨ (s.applyZone z f = t.evaluate ∧ s.usesZone z = true) := by
  intro u t
  by_cases h : (s.usesZone z && ((s.zones[z].state == .settled) != (u.zone.state == .settled))) = true
  · refine .inr ⟨?_, by simp at h; exact h.1⟩
    show (if _ then _ else _) = _
    rw [if_pos h]
  · refine .inl ⟨?_, ?_⟩
    · show (if _ then _ else _) = _
      rw [if_neg h]
    · cases g : s.usesZone z
      · exact .inl rfl
      · refine .inr ?_
        simp [g] at h
        constructor <;> intro e <;> simp_all

/-- The zone an event of all zones leaves at z. -/
@[simp] theorem State.applyZones_zone (f : ZoneIx → ZoneStep → ZoneStep) (z : ZoneIx) :
    (s.applyZones f).zones[z] = (f z (s.zoneStep z)).zone := by
  obtain ⟨q, h⟩ := s.applyZones_spec f
  simp [h]

/-- The heater an event of all zones leaves at z. -/
@[simp] theorem State.applyZones_heater (f : ZoneIx → ZoneStep → ZoneStep) (z : ZoneIx) :
    (s.applyZones f).heaters[z] = (f z (s.zoneStep z)).heater := by
  obtain ⟨q, h⟩ := s.applyZones_spec f
  simp [h]

/-! ## The RESET pin -/

/-- With RESET released an event does what its rule says. -/
@[simp] theorem State.unlessHeld_released (t : State) (h : s.inputs.resetPin = false) : s.unlessHeld t = t := by
  simp [State.unlessHeld, h]

/-- While RESET is held an event does nothing (R156). -/
@[simp] theorem State.unlessHeld_held (t : State) (h : s.inputs.resetPin = true) : s.unlessHeld t = s := by
  simp [State.unlessHeld, h]

/-! ## Bytes at the port -/

/-- Within 20 ms of the last byte the port is in the receive state it holds (R149). -/
theorem State.receiveState_within (h : s.timers.gap ≤ 20) : s.receiveState = s.port.receive :=
  if_neg (Nat.not_lt.2 h)

/-- After a gap over 20 ms a byte is judged in HUNTING (R149). -/
theorem State.receiveState_after (h : 20 < s.timers.gap) : s.receiveState = .hunting := if_pos h

/-- While RESET is held no byte arrives (R156). -/
theorem State.receive_held (b : RxByte) (h : s.inputs.resetPin = true) : s.receive b = s := s.unlessHeld_held _ h

/-- Nor do several. -/
theorem State.receiveAll_held (bytes : List RxByte) (h : s.inputs.resetPin = true) : s.receiveAll bytes = s := by
  induction bytes with
  | nil => rfl
  | cons b rest ih => rw [State.receiveAll, List.foldl_cons, s.receive_held b h]; exact ih

/-! ## Time -/

/-- The open timer has no limit: it counts every ms in RELEASE, and stands elsewhere (R93, R102). -/
theorem State.elapse_opening (ms : Nat) :
    (s.elapse ms).timers.opening = if s.cycle.state = .release then s.timers.opening + ms else s.timers.opening := rfl

/-- A timer never passes its limit while it runs, and stands while it does not. -/
theorem runTimer_le (limit timer ms : Nat) : runTimer true limit timer ms ≤ limit := by
  simp [runTimer]

@[simp] theorem runTimer_stopped (limit timer ms : Nat) : runTimer false limit timer ms = timer := rfl

end Sys2Proof.Machine
end

