-- ==== Sys2Proof/Laws/Take.lean ====
section
/-! SUPPORT. What taking a command telegram can do: the one lemma for each of the six ways it ends, and
what a reply is over a body of the right or the wrong length. -/

namespace Sys2Proof.Machine

variable (s : State) (kind guard : Byte)

/-- While RESET is held no telegram is taken (R156). -/
theorem State.take_held (own : Option (State → Reply)) (held : s.inputs.resetPin = true) :
    s.take kind guard own = s := s.unlessHeld_held _ held

/-- With an answer owed the telegram is discarded (R150). -/
theorem State.take_owed (own : Option (State → Reply)) (pin : s.inputs.resetPin = false)
    (h : s.port.answerOwed = true) : s.take kind guard own = s.hunt := by
  simp [State.take, pin, h]

/-- With no answer owed the telegram is judged, and its answer is owed (R150, R151). -/
theorem State.take_judged (own : Option (State → Reply)) (pin : s.inputs.resetPin = false)
    (h : s.port.answerOwed = false) : s.take kind guard own = (s.hunt.judge guard own).state.owe kind (s.hunt.judge guard own).status
      (s.hunt.judge guard own).body := by
  simp [State.take, pin, h]

/-- A guard that holds lets the command's own rule decide (R151). -/
theorem State.take_accepts (f : State → Reply) (h : s.accepts guard) :
    s.take kind guard (some f) = (f s.hunt).state.owe kind (f s.hunt).status (f s.hunt).body := by
  obtain ⟨owed, code, holds, pin⟩ := h
  rw [s.take_judged kind guard _ pin owed]
  simp [State.judge, Nat.not_lt.2 code, holds]

/-- A guard code above 7 is refused (R151). -/
theorem State.take_badGuard (own : Option (State → Reply)) (pin : s.inputs.resetPin = false) (owed : s.port.answerOwed = false)
    (code : 7 < guard.toNat) : s.take kind guard own = s.hunt.owe kind .badGuard [] := by
  rw [s.take_judged kind guard _ pin owed]
  simp [State.judge, code, Reply.refuse]

/-- A kind byte that names no kind is refused (R151). -/
theorem State.take_unknown (pin : s.inputs.resetPin = false) (owed : s.port.answerOwed = false) (code : guard.toNat ≤ 7) :
    s.take kind guard none = s.hunt.owe kind .unknownKind [] := by
  rw [s.take_judged kind guard _ pin owed]
  simp [State.judge, Nat.not_lt.2 code, Reply.refuse]

/-- A guard that does not hold passes the command over (R151). -/
theorem State.take_passed (f : State → Reply) (pin : s.inputs.resetPin = false) (owed : s.port.answerOwed = false)
    (code : guard.toNat ≤ 7) (fails : guardHolds guard s.cycle = false) : s.take kind guard (some f) = s.hunt.owe kind .passed [] := by
  rw [s.take_judged kind guard _ pin owed]
  simp [State.judge, Nat.not_lt.2 code, fails, Reply.refuse]

/-- Owing an answer over the hunting state is the answering state. -/
theorem State.hunt_owe (status : Status) (body : List Byte) :
    s.hunt.owe kind status body = s.answering kind status body := rfl

/-- A body of the right length is judged by the rule itself. -/
@[simp] theorem Reply.ofLength_true (k : Reply) : Reply.ofLength true s k = k := rfl

/-- A body of the wrong length is refused. -/
@[simp] theorem Reply.ofLength_false (k : Reply) : Reply.ofLength false s k = .refuse s .badLength := rfl

end Sys2Proof.Machine
end

