-- ==== Sys2Proof/Tests/Slice0.lean ====
section
/-! SUPPORT. The model's own tests: ill-formed commands refused, the line's codes, worked examples of the spec,
and for each statement with hypotheses a state and operands that meet them. A test's comment names where
its expected result comes from; a witness needs no result. -/

namespace Sys2Proof.Tests

open Sys2Proof.Machine

/-! ## Small states -/

/-- The recipe of the tool of two cavities below. -/
def recipe : Recipe where
  zones := [⟨0, 1500, 20⟩, ⟨1, 1500, 20⟩, ⟨2, 900, 30⟩]
  settleTime := 0
  rateTable := 0
  baseDose := 400
  massGain := 250
  minCure := 120
  maxCure := 200
  closeTimeout := 30
  openOverdue := 20
  strokeCount := 2
  strokeTimeout := 3000
  cavities := [⟨18500, 600, 45⟩, ⟨18200, 600, 45⟩]

/-- A tool of two cavities, zones 1 and 2, with support zone 3. -/
def tool : Tool where
  number := 7310
  cavityCount := 2
  cavityZones := #v[1, 2, 0, 0]
  support := 4
  active := some recipe
  staged := none
  revision := 5

/-- Its definition alone, as DEFINE TOOL gives it. -/
def bareTool : Tool := { tool with active := none, revision := 0 }

/-- A zone that has settled near 150.0 degrees. -/
def warm : Zone := { Zone.reset with setpoint := 1500, band := 20, temp := 1495, sampled := true, state := .settled }

/-- Two queued charges, one for each cavity. -/
def charges : List ChargeEntry := [⟨61, 1, 18700, none, some 6, 100, 9000⟩, ⟨62, 2, 18200, none, none, 110, 9100⟩]

/-- The tool mounted, heated and charged: READY (6.4). -/
def ready : State :=
  ((((State.reset.setTools (State.reset.tools.set 0 (some tool))).setZones
    (((State.reset.zones.set 0 warm).set 1 warm).set 2 warm)).setDrive { Drive.reset with master := true }).setQueue
    charges).setCycle { Cycle.reset with state := .ready, mounted := some 0, ready := true }

/-- The same press with the heat off and no charges: STANDBY. -/
def standby : State :=
  (State.reset.setTools (State.reset.tools.set 0 (some tool))).setCycle
    { Cycle.reset with state := .standby, mounted := some 0, reasons := ⟨true, false, true, true, false, false⟩ }

/-- The open record of the running states below. -/
def openPart : PartRecord where
  serial := 147
  opened := true
  toolNumber := 7310
  slot := 0
  revision := 5
  startTime := 90000
  closeTime := none
  releaseTime := none
  takeoutTime := none
  cureDuration := 0
  cavities := [⟨61, 18700, none, some 6, 102400, 0⟩, ⟨62, 18200, none, none, 102400, 0⟩]
  tg := none
  strokes := 0
  retries := 0
  outcome := .good
  faults := 0
  verdict := true

/-- The cure figures of the running states, two cavities short by one dose unit. -/
def doses : Cure := ⟨.accumulating, 119, [⟨102400, 102399, none⟩, ⟨102400, 102399, none⟩]⟩

/-- A running state with its record open and nothing queued. -/
def running (st : CycleState) : State :=
  ((((ready.setQueue []).setRing ⟨[openPart], some 148⟩).setCure { doses with phase := match st with
      | .loading => .pending | .curing => .accumulating | _ => .ended }).setInputs
    { Inputs.reset with ejectAtBack := true }).setCycle
    { Cycle.reset with state := st, mounted := some 0, closePermit := st == .loading, openPermit := st == .release }

/-- EJECTING in a sub-state. -/
def ejecting (e : EjectSub) : State :=
  (running .ejecting).setEjector { Ejector.reset with sub := e, strokes := 1, fwd := e == .extending }

/-! ## Sound states -/

/-- One tool alone in slot 1 is a sound tool table. -/
theorem toolInv_of_one (s : State) (t : Tool) (first : s.tools[(0 : SlotIx)] = some t)
    (others : ∀ i : SlotIx, i ≠ 0 → s.tools[i] = none) (sound : ToolSound t) (fresh : t.staged = none) : ToolInv s where
  sound i u h := by
    by_cases e : i = 0
    · subst e; rw [first] at h; cases h; exact sound
    · rw [others i e] at h; cases h
  distinct i j u v h g _ := by
    by_cases e : i = 0
    · by_cases f : j = 0
      · rw [e, f]
      · rw [others j f] at g; cases g
    · rw [others i e] at h; cases h
  waits i u h w := by
    by_cases e : i = 0
    · subst e; rw [first] at h; cases h; simp [fresh] at w
    · rw [others i e] at h; cases h

theorem tool_sound : ToolSound tool :=
  ⟨by decide, by decide, by decide, by intro r h; cases h; decide, (by intro r h; cases h), by decide⟩

theorem ready_toolInv : ToolInv ready := toolInv_of_one _ tool (by decide) (by decide) tool_sound rfl

theorem standby_toolInv : ToolInv standby := toolInv_of_one _ tool (by decide) (by decide) tool_sound rfl

theorem ready_cycleInv : CycleInv ready :=
  ⟨by decide, by intro i h; cases h; exact ⟨tool, recipe, by decide, rfl⟩, by decide, by decide, by decide, by decide⟩

theorem standby_cycleInv : CycleInv standby :=
  ⟨by decide, by intro i h; cases h; exact ⟨tool, recipe, by decide, rfl⟩, by decide, by decide, by decide, by decide⟩

theorem running_cycleInv : CycleInv (running .release) :=
  ⟨by decide, by intro i h; cases h; exact ⟨tool, recipe, by decide, rfl⟩, by decide, by decide, by decide, by decide⟩

theorem ready_ringInv : RingInv ready :=
  ⟨by decide, by decide, by decide, by decide, by decide, by intro n h; cases h; decide, by decide, by decide, by decide⟩

theorem running_ringInv : RingInv (running .release) :=
  ⟨by decide, by decide, by decide, by decide, by decide, by intro n h; cases h; decide, by decide, by decide, by decide⟩

theorem ready_scaleInv : ScaleInv ready :=
  ⟨by decide, by decide, by decide, by decide, (by intro m h; cases h), by decide, by decide, by decide⟩

theorem ready_queueInv : QueueInv ready :=
  ⟨by decide, by decide, by decide, (by intro a h; cases h), (by intro p h; cases h)⟩

theorem ready_chargeInv : ChargeInv ready := by unfold ChargeInv; decide

theorem ready_zoneInv : ZoneInv ready := fun z =>
  ⟨by revert z; decide, by revert z; decide, by revert z; decide, by revert z; decide, by revert z; decide,
   by revert z; decide, by revert z; decide, by revert z; decide, by revert z; decide⟩

theorem ready_cureInv : CureInv ready :=
  ⟨by decide, by decide, by decide, by decide, (by intro r h; cases h), (by intro h; cases h)⟩

theorem ready_permitInv : PermitInv ready := by unfold PermitInv; decide

theorem ready_ejectorInv : EjectorInv ready := ⟨by decide, by decide, by decide, by decide⟩

theorem ready_portInv : PortInv ready := ⟨trivial, rfl, by decide⟩

theorem ready_noticeInv : NoticeInv ready := ⟨by decide, by decide⟩

/-- A guard byte that always holds is accepted while no answer is owed. -/
theorem accepts_always (s : State) (h : s.port.answerOwed = false) (pin : s.inputs.resetPin = false := by rfl) :
    s.accepts 0 := ⟨h, by decide, rfl, pin⟩

/-! ## Witnesses: for each statement with hypotheses, a state and operands that meet them -/

/-- The tool in its slot, not mounted. -/
def shelved : State := State.reset.setTools (State.reset.tools.set 0 (some tool))

/-- The tool in its slot without a recipe. -/
def bare : State := State.reset.setTools (State.reset.tools.set 0 (some bareTool))

/-- All eight slots hold a tool, numbers 1 to 8. -/
def full : State := State.reset.setTools (Vector.ofFn (fun i => some { tool with number := i.val + 1 }))

/-- A cure with a recipe waiting. -/
def staged : State :=
  (running .curing).setTools (State.reset.tools.set 0 (some { tool with staged := some recipe }))

/-- An answer is owed, the answer of RESTART or another. -/
def owing (restart : Bool) (s : State) : State :=
  s.setPort { Port.reset with answerOwed := true, answer := some ⟨0x06, .done, []⟩, restartTaken := restart }

theorem shelved_toolInv : ToolInv shelved := toolInv_of_one _ tool (by decide) (by decide) tool_sound rfl

theorem bare_sound : ToolSound bareTool :=
  ⟨by decide, by decide, by decide, (by intro r h; cases h), (by intro r h; cases h), by decide⟩

theorem bare_toolInv : ToolInv bare := toolInv_of_one _ bareTool (by decide) (by decide) bare_sound rfl

theorem curing_toolInv : ToolInv (running .curing) := toolInv_of_one _ tool (by decide) (by decide) tool_sound rfl

theorem full_toolInv : ToolInv full := by
  have at_slot : ∀ (i : SlotIx) (t : Tool), full.tools[i] = some t → t = { tool with number := i.val + 1 } := by
    intro i t h
    have e : full.tools[i] = some { tool with number := i.val + 1 } := by simp [full, State.setTools]
    rw [e] at h; cases h; rfl
  refine ⟨?_, ?_, ?_⟩
  · intro i t h
    obtain rfl := at_slot i t h
    exact ⟨by simp; omega, by simp [tool], by simpa using tool_sound.zones, by simpa using tool_sound.active,
      (by intro r h; cases h), by simp [tool]⟩
  · intro i j t u h g e
    obtain rfl := at_slot i t h
    obtain rfl := at_slot j u g
    exact Fin.ext (by simpa using e)
  · intro i t h w
    obtain rfl := at_slot i t h
    simp [tool] at w

theorem recipe_fits : recipe.Fits tool :=
  ⟨by decide, by decide, by decide, by decide, by decide, by decide, by decide, by decide⟩

theorem witness_StepCarriesOutTheFrontCommand : (ready.setPending [.windowStart]).pending = .windowStart :: [] := rfl

theorem witness_QueueAndRunSecondsAreLeftAlone :
    (∃ t, exec .secondAdvance ready = .next t ∧ t.clocks.run = 1) ∧ ∃ t, exec .eStopRising ready = .next t ∧ t.clocks.run = 0 :=
  ⟨⟨_, rfl, by decide⟩, ⟨_, rfl, by decide⟩⟩

/-- A body of zeros fits up to 240 bytes. -/
theorem zeros_fit (n : Nat) (h : n ≤ 240) : bodyFits (List.replicate n 0) = true := by simp [bodyFits, h]

/-- A body of n zeros is no longer than n. -/
theorem zeros_length (n : Nat) : (List.replicate n (0 : Byte)).length ≤ n := by simp

theorem witness_CommandTelegramSpellsItsRow :
    ready.inputs.resetPin = false
    ∧ ready.port.receive = .hunting
    ∧ commandRow (.heat 0 []) = some (0x23, 0, []) ∧ (Instr.heat 0 []).wellFormed = true
    ∧ commandRow (.unknownKind 0 9 (List.replicate 240 0)) = some (0, 9, List.replicate 240 0)
    ∧ (Instr.unknownKind 0 9 (List.replicate 240 0)).wellFormed = true :=
  ⟨rfl, rfl, rfl, rfl, rfl, by rw [Instr.wellFormed, zeros_fit 240 (Nat.le_refl _)]; decide⟩

theorem witness_DiscardedTelegramsLeaveNoTrace :
    ready.inputs.resetPin = false ∧ (owing false ready).inputs.resetPin = false
    ∧ ready.port.receive = .hunting ∧ (List.replicate 240 (0 : Byte)).length ≤ 240 ∧ ([] : List Byte).length ≤ 240
    ∧ (1 : Byte).toNat < 2 ∧ 242 < (243 : Byte).toNat
    ∧ [(0 : Byte), 0] ≠ be16 (crc16 (frameContent 0x01 0 [])).toNat
    ∧ (owing false ready).port.receive = .hunting ∧ (owing false ready).port.answerOwed = true :=
  ⟨rfl, rfl, rfl, zeros_length 240, by decide, by decide, by decide, by decide +kernel, rfl, rfl⟩

/-- Bytes of a telegram are arriving. -/
def receiving (buffer : List Byte) : State := ready.setPort { Port.reset with receive := .receiving buffer }

/-- Two bytes of a telegram have arrived, and then none for some ms. -/
def silent (ms : Nat) : State := (receiving [4, 1]).setTimers { Timers.reset with gap := ms }

theorem witness_SyncByteAndGap :
    ready.port.receive = .hunting ∧ (receiving [2, 1, 0]).port.receive = .receiving (2 :: [1, 0])
    ∧ 2 ≤ (2 : Byte).toNat ∧ [(1 : Byte), 0].length < (2 : Byte).toNat + 1
    ∧ (receiving [242]).port.receive = .receiving (242 :: []) ∧ (242 : Byte).toNat ≤ 242
    ∧ (receiving []).port.receive = .receiving [] ∧ (receiving [2, 1, 0]).timers.gap ≤ 20
    ∧ (receiving [2, 1, 0]).inputs.resetPin = false ∧ 20 < (silent 21).timers.gap ∧ (silent 20).timers.gap ≤ 20
    ∧ (silent 21).inputs.resetPin = false ∧ (⟨0xC3, true⟩ : RxByte).framingError = true
    ∧ (⟨0, false⟩ : RxByte).value ≠ 0xC3 := by decide

theorem witness_OwedAnswerShutsOutCommands :
    (owing false ready).inputs.resetPin = false
    ∧ commandRow (.heat 0 [1]) = some (0x23, 0, [1]) ∧ (Instr.heat 0 [1]).wellFormed = true
    ∧ (owing false ready).port.answerOwed = true := by decide

/-- READY with the last part clean. -/
def clean : State := ready.setCycle { ready.cycle with clean := true }

theorem witness_GuardRefusalsChangeNothing :
    ready.inputs.resetPin = false ∧ clean.inputs.resetPin = false ∧ standby.inputs.resetPin = false
    ∧ commandRow (.readStatus 8 []) = some (0x02, 8, []) ∧ (Instr.readStatus 8 []).wellFormed = true
    ∧ 7 < (8 : Byte).toNat ∧ (7 : Byte).toNat ≤ 7 ∧ (Instr.unknownKind 0x07 7 []).wellFormed = true
    ∧ commandRow (.unknownKind 0x07 7 []) = some (0x07, 7, [])
    ∧ ready.port.answerOwed = false ∧ clean.port.answerOwed = false
    ∧ standby.cycle.ready = false ∧ ready.cycle.ready = true ∧ ready.cycle.clean = false
    ∧ clean.cycle.ready = true ∧ clean.cycle.clean = true := by decide

theorem witness_PortCommandsComplete :
    State.reset.accepts 0 ∧ ([0] : List Byte) ≠ [] ∧ ([0, 0, 0] : List Byte).length ≠ 4
    ∧ ([0, 0, 0, 0, 0] : List Byte).length ≠ 4 := ⟨accepts_always _ rfl, by decide, by decide, by decide⟩

theorem witness_ReadStatusReportsTheSummary : standby.accepts 2 ∧ ([0] : List Byte) ≠ [] :=
  ⟨⟨rfl, by decide, rfl, rfl⟩, by decide⟩

theorem witness_ReadNoticesTakesTheOldestEight : ready.accepts 1 ∧ ([0] : List Byte) ≠ [] :=
  ⟨⟨rfl, by decide, rfl, rfl⟩, by decide⟩

theorem witness_AnswerSentClearsWhatIsOwed :
    (owing false ready).inputs.resetPin = false
    ∧ (owing false ready).port.answerOwed = true ∧ (owing false ready).port.restartTaken = false := by decide

theorem witness_RestartActsAfterItsAnswer :
    (owing true staged).inputs.resetPin = false ∧ (owing true (running .curing)).port.restartTaken = true
    ∧ (owing true (running .curing)).cycle.state = .curing ∧ (owing true (ejecting .stalled)).cycle.state = .ejecting
    ∧ (owing true (ejecting .stalled)).port.restartTaken = true ∧ (running .curing).ring.records.any (·.opened) = true
    ∧ (owing true staged).port.answerOwed = true ∧ (owing true staged).port.restartTaken = true
    ∧ (owing true staged).cycle.state.running = true ∧ (owing true staged).cycle.mounted = some 0
    ∧ (owing true staged).tools[(0 : SlotIx)] = some { tool with staged := some recipe }
    ∧ (owing true ready).port.restartTaken = true ∧ (owing true ready).cycle.state.running = false
    ∧ (owing true ready).zones[(0 : ZoneIx)].state ≠ .off := by decide

/-- RESET is held. -/
def pinHeld : State := State.reset.powerOnHeld

theorem witness_PowerOnRestoresTheResetState :
    pinHeld.inputs.resetPin = true ∧ pinHeld.pending = [] ∧ (∀ b : Bool, Instr.windowStart ≠ .powerOnReset b) :=
  ⟨rfl, rfl, by decide⟩

theorem witness_ReadsReportAndChangeNothing :
    ([] : List Byte).length ≠ 1 ∧ 2 ≤ ([0, 0] : List Byte).length ∧ ([0] : List Byte).length ≠ 4
    ∧ ([0] : List Byte) ≠ [] ∧ (0 : Byte) = 0 ∧ 12 < (13 : Byte).toNat ∧ 11 < (12 : Byte).toNat
    ∧ ready.accepts 0 ∧ ([byte 11] : List Byte) = [byte 11] ∧ (11 ≤ 11)
    ∧ (running .release).accepts 0 ∧ (running .release).ring.records.any (fun r => r.serial == 4294967295) = false
    ∧ openPart ∈ (running .release).ring.records ∧ openPart.serial < 4294967296
    ∧ (running .release).ring.records.Pairwise (fun a b => a.serial < b.serial)
    ∧ ready.ring.records = [] ∧ (running .release).ring.records = openPart :: [] :=
  ⟨by decide, by decide, by decide, by decide, rfl, by decide, by decide, accepts_always _ rfl, rfl, by decide, accepts_always _ rfl, by decide, by decide, by decide, by decide, rfl, rfl⟩

/-- A part whose first charge has a lot text of twelve characters. -/
def lotPart : PartRecord :=
  { openPart with cavities := [⟨61, 18700, some (List.replicate 12 0x41), some 99, 102400, 0⟩, ⟨62, 18200, none, none, 0, 0⟩] }

theorem witness_PartRecordIsCarriedWhole :
    (∀ c ∈ lotPart.cavities, (c.lot.getD []).length ≤ 12) ∧ lotPart.cavities[1]? = some ⟨62, 18200, none, none, 0, 0⟩ := by
  decide

theorem witness_ToolSlotsAreWrittenAndCleared :
    shelved.accepts 0 ∧ ToolInv shelved ∧ ToolInv ready ∧ ToolInv full ∧ ToolSound bareTool
    ∧ ToolSound { bareTool with number := 65535 }
    ∧ shelved.tools[(0 : SlotIx)] = some tool ∧ tool.number = bareTool.number ∧ shelved.cycle.mounted ≠ some 0
    ∧ ready.tools[(0 : SlotIx)] = some tool ∧ ready.cycle.mounted = some 0
    ∧ (∀ (i : SlotIx) (old : Tool), shelved.tools[i] = some old → old.number ≠ 65535)
    ∧ shelved.tools[(1 : SlotIx)] = none ∧ (∀ j : SlotIx, j < 1 → shelved.tools[j] ≠ none)
    ∧ (∀ i : SlotIx, full.tools[i] ≠ none) ∧ (∀ (i : SlotIx) (old : Tool), full.tools[i] = some old → old.number ≠ 7310)
    ∧ ([] : List Byte).length ≠ 13 := by
  have other : ∀ i : SlotIx, i ≠ 0 → shelved.tools[i] = none := by decide
  refine ⟨accepts_always _ rfl, shelved_toolInv, ready_toolInv, full_toolInv, bare_sound,
    ⟨by decide, by decide, by decide, (by intro r h; cases h), (by intro r h; cases h), by decide⟩,
    by decide, by decide, by decide, by decide, by decide, ?_, by decide, by decide, by decide, ?_, by decide⟩
  · intro i old h
    by_cases e : i = 0
    · have first : shelved.tools[(0 : SlotIx)] = some tool := by decide
      rw [e, first] at h; cases h; decide
    · rw [other i e] at h; cases h
  · intro i old h
    have e : full.tools[i] = some { tool with number := i.val + 1 } := by simp [full, State.setTools]
    rw [e] at h; cases h; simp; omega

/-- Figures of a body that DEFINE TOOL refuses: zone 13 in a set, an empty set of a cavity, a set of a cavity that is
not there, and a support zone in a set. -/
theorem witness_ToolSlotsAreWrittenAndCleared_refusals :
    (∀ k : Fin 4, (#v[4096, 0, 0, 0] : Vector Nat 4)[k] < 65536) ∧ 4096 ≤ (#v[4096, 0, 0, 0] : Vector Nat 4)[(0 : Fin 4)]
    ∧ ((1 : Fin 4).val < 2 ∧ (#v[1, 0, 0, 0] : Vector Nat 4)[(1 : Fin 4)] = 0)
    ∧ (1 ≤ (1 : Fin 4).val ∧ (#v[1, 2, 0, 0] : Vector Nat 4)[(1 : Fin 4)] ≠ 0)
    ∧ 5 &&& (#v[1, 0, 0, 0] : Vector Nat 4)[(0 : Fin 4)] ≠ 0 ∧ 4 < 5 ∧ 5 < 256 ∧ 4096 ≤ 4096 ∧ 4096 < 65536
    ∧ ([] : List Byte).length ≠ 2 := by decide

/-- A rate table that rises from the lowest temperature to the highest. -/
def rising : RateTable := Vector.ofFn (fun k => ⟨-500 + 300 * (k.val : Int), 65535⟩)

/-- A rate table one step too high, and one that stands still. -/
def tooHigh : RateTable := Vector.ofFn (fun k => ⟨-499 + 300 * (k.val : Int), 0⟩)
def level : RateTable := Vector.replicate 16 ⟨0, 0⟩

theorem witness_LoadRatesReplacesTheTable :
    ready.accepts 0 ∧ (running .curing).accepts 0
    ∧ (∀ j : Fin 16, -32768 ≤ rising[j].temp ∧ rising[j].temp ≤ 32767 ∧ rising[j].rate ≤ 65535)
    ∧ (∀ i j : Fin 16, i < j → rising[i].temp < rising[j].temp) ∧ -500 ≤ rising[0].temp ∧ rising[15].temp ≤ 4000
    ∧ ((running .curing).cycle.state = .curing ∧ ∃ r, (running .curing).activeRecipe = some r ∧ r.rateTable = 0)
    ∧ ¬(ready.cycle.state = .curing ∧ ∃ r, ready.activeRecipe = some r ∧ r.rateTable = 0)
    ∧ (∃ i j : Fin 16, i < j ∧ level[j].temp ≤ level[i].temp)
    ∧ (∃ j : Fin 16, tooHigh[j].temp < -500 ∨ 4000 < tooHigh[j].temp)
    ∧ 3 < (4 : Byte).toNat ∧ (List.replicate 64 (0 : Byte)).length = 64 :=
  ⟨accepts_always _ rfl, accepts_always _ rfl, by decide, by decide, by decide, by decide,
    ⟨by decide, recipe, by decide, rfl⟩, (by intro h; cases h.1), by decide, by decide, by decide, by decide⟩

theorem witness_StageRecipePromotesOrWaits :
    shelved.accepts 0 ∧ ToolInv shelved ∧ shelved.tools[(0 : SlotIx)] = some tool ∧ recipe.Fits tool
    ∧ shelved.cycle.mounted ≠ some 0
    ∧ (running .curing).accepts 0 ∧ ToolInv (running .curing) ∧ (running .curing).tools[(0 : SlotIx)] = some tool
    ∧ (running .curing).cycle.mounted = some 0 ∧ (running .curing).cycle.state.running = true :=
  ⟨accepts_always _ rfl, shelved_toolInv, by decide, recipe_fits, by decide, accepts_always _ rfl, curing_toolInv,
    by decide, by decide, by decide⟩

/-- A recipe a body can carry, but no tool takes: its band is wider than 500. -/
def wide : Recipe := { recipe with zones := [⟨0, 1500, 501⟩, ⟨1, -1, 20⟩, ⟨2, 900, 30⟩] }

theorem witness_StageRecipePromotesOrWaits_refusals :
    shelved.accepts 0 ∧ ToolInv shelved ∧ shelved.tools[(0 : SlotIx)] = some tool ∧ wide.Carried ∧ ¬wide.Fits tool
    ∧ 3 < (4 : Byte).toNat ∧ 12 < (13 : Byte).toNat ∧ (2 < wide.zones.length)
    ∧ State.reset.accepts 0 ∧ ToolInv State.reset
    ∧ (∀ (i : SlotIx) (t : Tool), State.reset.tools[i] = some t → t.number ≠ 65535)
    ∧ ¬(22 ≤ (List.replicate 21 (0 : Byte)).length) ∧ ¬((List.replicate 23 (0 : Byte)).length
      = 22 + 5 * ((List.replicate 23 (0 : Byte)).getD 20 0).toNat + 6 * ((List.replicate 23 (0 : Byte)).getD 21 0).toNat) := by
  have empty : ∀ i : SlotIx, State.reset.tools[i] = none := by decide
  refine ⟨accepts_always _ rfl, shelved_toolInv, by decide, ⟨by decide, by decide, by decide, by decide⟩, ?_, by decide,
    by decide, by decide, accepts_always _ rfl, ⟨?_, ?_, ?_⟩, ?_, by decide, by decide⟩
  · intro h
    exact absurd (h.entries ⟨0, 1500, 501⟩ (by decide)).2.2.2 (by decide)
  all_goals intro i
  · intro t h; rw [empty i] at h; cases h
  · intro j t u h; rw [empty i] at h; cases h
  · intro t h; rw [empty i] at h; cases h
  · intro t h; rw [empty i] at h; cases h

theorem witness_StageRecipeReachesTheMountedTool :
    ready.accepts 0 ∧ ToolInv ready ∧ ready.tools[(0 : SlotIx)] = some tool ∧ recipe.Fits tool
    ∧ ready.cycle.mounted = some 0 ∧ ready.cycle.state.waits = true :=
  ⟨accepts_always _ rfl, ready_toolInv, by decide, recipe_fits, by decide, by decide⟩

theorem witness_MountSetsThePressUp :
    ready.accepts 0 ∧ ToolInv ready ∧ QueueInv ready ∧ ready.cycle.state.running = false
    ∧ ready.tools[(0 : SlotIx)] = some tool ∧ tool.number = 7310 ∧ tool.active = some recipe
    ∧ ZoneSet.has tool.used 0 = true ∧ recipe.entryFor 0 = some ⟨0, 1500, 20⟩ ∧ ZoneSet.has tool.used 11 = false
    ∧ ToolInv bare ∧ QueueInv bare ∧ bare.tools[(0 : SlotIx)] = some bareTool ∧ bareTool.active = none
    ∧ (∀ (i : SlotIx) (t : Tool), ready.tools[i] = some t → t.number ≠ 0)
    ∧ ToolInv (running .curing) ∧ QueueInv (running .curing) ∧ (running .curing).cycle.state.running = true := by
  refine ⟨accepts_always _ rfl, ready_toolInv, ready_queueInv, by decide, by decide, rfl, rfl, by decide, by decide,
    by decide, bare_toolInv, ⟨by decide, by decide, by decide, (by intro a h; cases h), (by intro p h; cases h)⟩,
    by decide, rfl, ?_, curing_toolInv,
    ⟨by decide, by decide, by decide, (by intro a h; cases h), (by intro p h; cases h)⟩, by decide⟩
  intro i t h e
  have := (ready_toolInv.sound i t h).number
  omega

/-- MOUNT with a tool mounted: charges queued and places free, and the body of a wrong length. -/
theorem witness_MountSetsThePressUp_notice :
    ready.queue ≠ [] ∧ ready.notices.list.length < 16 ∧ ready.cycle.mounted ≠ none ∧ ready.scale.capture ≠ .waiting
    ∧ ([] : List Byte).length ≠ 2 := by decide

/-- A capture waits while the tool is mounted. -/
def waiting (s : State) : State :=
  s.setScale { Scale.reset with
    capture := .waiting, snapshot := some ⟨1, none, none, 18500, 600, 45, 5000⟩, reference := 18700, stabilityTimer := 580 }

theorem witness_MountSetsThePressUp_waiting :
    (waiting ready).accepts 0 ∧ ToolInv (waiting ready) ∧ QueueInv (waiting ready)
    ∧ (waiting ready).cycle.state.running = false ∧ (waiting ready).tools[(0 : SlotIx)] = some tool
    ∧ tool.active = some recipe ∧ (waiting ready).cycle.mounted ≠ none ∧ (waiting ready).scale.capture = .waiting :=
  ⟨accepts_always _ rfl, toolInv_of_one _ tool (by decide) (by decide) tool_sound rfl,
    ⟨by decide, by decide, by decide, (by intro a h; cases h), (by intro p h; cases h; decide)⟩, rfl, by decide, rfl,
    by decide, rfl⟩

theorem witness_UnmountEmptiesTheStation :
    ([0] : List Byte) ≠ []
    ∧ State.reset.accepts 0 ∧ State.reset.cycle.state.waits = false ∧ ready.accepts 0 ∧ ready.cycle.state.waits = true
    ∧ ready.scale.capture ≠ .waiting ∧ ready.queue ≠ [] ∧ ready.notices.list.length < 16
    ∧ (waiting ready).accepts 0 ∧ (waiting ready).cycle.state.waits = true ∧ (waiting ready).scale.capture = .waiting :=
  ⟨by decide, accepts_always _ rfl, rfl, accepts_always _ rfl, rfl, by decide, by decide, by decide, accepts_always _ rfl, rfl, rfl⟩

/-- A configuration at ends of its ranges, whose setpoint maximum takes every setpoint to 0. -/
def edgeConfig : ZoneConfig :=
  ⟨20000, -500, 4000, 0, 255, 0, 10, 600, 0, 200⟩

theorem witness_SetZoneConfiguresOneZone :
    ready.accepts 0 ∧ edgeConfig.Fits ∧ ready.usesZone 11 = false ∧ ready.usesZone 0 = true
    ∧ ready.activeRecipe = some recipe ∧ recipe.entryFor 0 = some ⟨0, 1500, 20⟩
    ∧ ready.zones[(0 : ZoneIx)].setpoint ≠ 0 ∧ ready.zones[(0 : ZoneIx)].state ≠ .off
    ∧ ∃ t, exec (.setZone 0 (setZoneBody 0 edgeConfig)) ready = .next t ∧ t.zones[(0 : ZoneIx)].setpoint = 0 :=
  ⟨accepts_always _ rfl, ⟨by decide, by decide, by decide, by decide, by decide, by decide, by decide, by decide⟩,
    by decide, by decide, by decide, by decide, by decide, by decide, _, rfl, by decide⟩

/-- Configurations a body can carry and SET ZONE refuses: limits that meet, and a standby setpoint above the maximum. -/
def meeting : ZoneConfig := { edgeConfig with lowLimit := 4000 }
def aboveMaximum : ZoneConfig := { edgeConfig with standby := 1 }

theorem witness_SetZoneConfiguresOneZone_refusals :
    ready.accepts 0 ∧ meeting.Carried ∧ ¬meeting.Fits ∧ aboveMaximum.Carried ∧ ¬aboveMaximum.Fits
    ∧ ([] : List Byte).length ≠ 19 ∧ (List.replicate 18 (0 : Byte)).length = 18 ∧ 12 < (13 : Byte).toNat :=
  ⟨accepts_always _ rfl, ⟨by decide, by decide, by decide⟩, (fun h => absurd h.low.2.1 (by decide)),
    ⟨by decide, by decide, by decide⟩, (fun h => absurd h.standby.2 (by decide)), by decide, by decide, by decide⟩

/-- The first zone of the ready press, changed. -/
def withZone (z : Zone) : State := ready.setZones (ready.zones.set 0 z)

/-- Another recipe for the mounted tool: the first zone's setpoint is 1400, the second's as it was, the third's 0. -/
def cooler : Recipe := { recipe with zones := [⟨0, 1400, 20⟩, ⟨1, 1500, 20⟩, ⟨2, 0, 30⟩] }

theorem cooler_fits : cooler.Fits tool :=
  ⟨by decide, by decide, by decide, by decide, by decide, by decide, by decide, by decide⟩

/-- A zone after STAGE RECIPE with it, where the first zone was `z`. -/
def restaged (z : Zone) (y : ZoneIx) : Option Zone :=
  match exec (.stageRecipe 0 (stageRecipeBody 7310 cooler)) (withZone z) with
  | .next t => some t.zones[y]
  | _ => none

/-- A changed setpoint in SETTLED, out of the new band and in it, in RAMP, FAULT and OFF; an unchanged one; a setpoint
of 0; and a zone the tool does not use. -/
theorem witness_StageRecipeReachesTheMountedTool_judged :
    (withZone warm).accepts 0 ∧ ToolInv (withZone warm) ∧ (withZone warm).tools[(0 : SlotIx)] = some tool
    ∧ cooler.Fits tool ∧ (withZone warm).cycle.mounted = some 0 ∧ (withZone warm).cycle.state.waits = true
    ∧ (withZone warm).notices.list.length < 16
    ∧ (restaged warm 0).any (fun z => z.setpoint == 1400 && z.state == .ramp && z.settleTimer == 0) = true
    ∧ (restaged { warm with temp := 1405 } 0).any (fun z => z.state == .settled) = true
    ∧ (restaged { warm with state := .ramp, settleTimer := 5 } 0).any (fun z => z.state == .ramp && z.settleTimer == 5) = true
    ∧ (restaged { warm with state := .fault } 0).any (fun z => z.state == .fault) = true
    ∧ (restaged { warm with state := .off, setpoint := 0 } 0).any (fun z => z.state == .ramp) = true
    ∧ (restaged { warm with config := { ZoneConfig.reset with hotMargin := 10 } } 0).any (·.hot) = true
    ∧ (restaged warm 1).any (fun z => z.setpoint == 1500 && z.state == .settled) = true
    ∧ (restaged warm 2).any (fun z => z.setpoint == 0 && z.state == .off) = true
    ∧ ready.usesZone 11 = false ∧ ready.zones[(11 : ZoneIx)].setpoint = ready.zones[(11 : ZoneIx)].config.standby
    ∧ ready.zones[(11 : ZoneIx)].band = 30 ∧ ready.zones[(11 : ZoneIx)].settle = 0
    ∧ ready.zones[(11 : ZoneIx)].state ≠ .settling :=
  ⟨accepts_always _ rfl, toolInv_of_one _ tool (by decide) (by decide) tool_sound rfl, by decide, cooler_fits, rfl, rfl,
    by decide, by decide +kernel, by decide +kernel, by decide +kernel, by decide +kernel, by decide +kernel,
    by decide +kernel, by decide +kernel, by decide +kernel, by decide, by decide, by decide, by decide, by decide⟩

/-- A configuration whose setpoint maximum moves the first zone's setpoint from 1500 to 1400, with the least hot margin. -/
def lower : ZoneConfig := { ZoneConfig.reset with setpointMax := 1400, hotMargin := 10 }

theorem lower_fits : lower.Fits :=
  ⟨by decide, by decide, by decide, by decide, by decide, by decide, by decide, by decide⟩

/-- The zone after SET ZONE with that configuration. -/
def lowered (z : Zone) : Option Zone :=
  match exec (.setZone 0 (setZoneBody 0 lower)) (withZone z) with
  | .next t => some t.zones[(0 : ZoneIx)]
  | _ => none

/-- A changed setpoint in SETTLED, out of the new band and in it, in RAMP and FAULT; HOT judged at once, and with a stale
temperature not; and a zone left OFF, or brought out of it by a standby setpoint. -/
theorem witness_SetZoneConfiguresOneZone_judged :
    lower.Fits ∧ ready.accepts 0 ∧ ready.usesZone 0 = true
    ∧ (lowered warm).any (fun z => z.setpoint == 1400 && z.state == .ramp && z.settleTimer == 0 && z.hot) = true
    ∧ (lowered { warm with temp := 1405, settle := 60 }).any (fun z => z.state == .settled && !z.hot) = true
    ∧ (lowered { warm with state := .ramp, settleTimer := 5 }).any (fun z => z.state == .ramp && z.settleTimer == 5) = true
    ∧ (lowered { warm with state := .fault, implausible := 2 }).any (fun z => z.state == .fault && !z.hot) = true
    ∧ (lowered { warm with state := .off, setpoint := 0 }).any (fun z => z.state == .ramp) = true
    ∧ (lowered { warm with state := .off }).any (fun z => z.state == .off) = true
    ∧ (withZone { warm with state := .off, setpoint := 0 }).drive.master = true
    ∧ ready.inputs.eStop = false ∧ ready.notices.list.length < 16 :=
  ⟨lower_fits, accepts_always _ rfl, by decide, by decide, by decide, by decide, by decide, by decide, by decide, rfl, rfl,
    by decide⟩

/-- A zone at the end of its settle time, one whose next sample is hot, one about to fault, and one in FAULT. -/
def settling : Zone := { warm with state := .settling, settle := 1, settleTimer := 750 }
def suspect : Zone := { warm with implausible := 1 }
def faulty (n : Nat) : Zone := { warm with state := .fault, plausible := n, implausible := 2, faultAge := 599900 }

theorem witness_PlausibleSampleJudgesTheZone :
    ready.inputs.resetPin = false ∧ (withZone settling).inputs.resetPin = false
    ∧ ready.zones[(0 : ZoneIx)].state ≠ .fault ∧ ready.zones[(0 : ZoneIx)].config.lowLimit ≤ -200
    ∧ 3200 ≤ ready.zones[(0 : ZoneIx)].config.highLimit
    ∧ (withZone settling).zones[(0 : ZoneIx)].state = .settling
    ∧ (∃ t, exec (.zoneSample 0 (.celsius 1530)) (withZone settling) = .next t ∧ t.zones[(0 : ZoneIx)].state = .settled)
    ∧ ready.zones[(0 : ZoneIx)].hot = false
    ∧ (∃ t, exec (.zoneSample 0 (.celsius 1751)) ready = .next t ∧ t.zones[(0 : ZoneIx)].hot = true)
    ∧ ready.usesZone 0 = true ∧ ready.cycle.state.waits = true ∧ ready.zones[(0 : ZoneIx)].state = .settled
    ∧ (∃ t, exec (.zoneSample 0 (.celsius 1469)) ready = .next t ∧ t.zones[(0 : ZoneIx)].state ≠ .settled) :=
  ⟨rfl, rfl, by decide, by decide, by decide, by decide, ⟨_, rfl, by decide⟩, by decide, ⟨_, rfl, by decide⟩, by decide,
    by decide, by decide, ⟨_, rfl, by decide⟩⟩

theorem witness_ImplausibleSamplesLeadToFault :
    ready.inputs.resetPin = false ∧ (withZone suspect).inputs.resetPin = false
    ∧ (withZone (faulty 0)).inputs.resetPin = false
    ∧ 3201 > ready.zones[(0 : ZoneIx)].config.highLimit ∧ -201 < ready.zones[(0 : ZoneIx)].config.lowLimit
    ∧ ready.zones[(11 : ZoneIx)].state = .off
    ∧ ready.zones[(0 : ZoneIx)].state ≠ .fault ∧ ready.zones[(0 : ZoneIx)].implausible = 0
    ∧ (withZone suspect).zones[(0 : ZoneIx)].state = .settled ∧ (withZone suspect).zones[(0 : ZoneIx)].implausible = 1
    ∧ (withZone (faulty 0)).zones[(0 : ZoneIx)].state = .fault ∧ (withZone suspect).notices.list.length < 16 := by decide

theorem witness_EightPlausibleSamplesRecover :
    (withZone (faulty 6)).inputs.resetPin = false ∧ (withZone (faulty 7)).inputs.resetPin = false
    ∧ (withZone (faulty 6)).zones[(0 : ZoneIx)].state = .fault ∧ (withZone (faulty 6)).zones[(0 : ZoneIx)].plausible < 7
    ∧ (withZone (faulty 7)).zones[(0 : ZoneIx)].plausible = 7 ∧ (withZone (faulty 7)).zones[(0 : ZoneIx)].config.lowLimit ≤ 1500
    ∧ 1500 ≤ (withZone (faulty 7)).zones[(0 : ZoneIx)].config.highLimit
    ∧ (withZone (faulty 7)).notices.list.length < 15 := by decide

theorem witness_WindowStartGrantsEveryZone : ready.inputs.resetPin = false := rfl

theorem witness_GrantsStayWithinTheBudget :
    (ready.setDrive { Drive.reset with master := true, budget := 1000 }).inputs.resetPin = false
    ∧ (∃ t, exec .windowStart (ready.setDrive { Drive.reset with master := true, budget := 1000 }) = .next t) ∧ ZoneInv ready :=
  ⟨rfl, ⟨_, rfl⟩, ready_zoneInv⟩

/-- The first heater is on for a part of the window, or for all of it. -/
def heating (ms : Nat) : State := ready.setHeaters (ready.heaters.set 0 { Heater.reset with onTime := ms, output := true })

theorem witness_OnTimeEndSwitchesOff :
    (heating 1999).inputs.resetPin = false ∧ (heating 2000).inputs.resetPin = false
    ∧ (heating 1999).heaters[(0 : ZoneIx)].output = true
    ∧ (heating 1999).heaters[(0 : ZoneIx)].onTime < (heating 1999).drive.windowLength
    ∧ (heating 2000).drive.windowLength ≤ (heating 2000).heaters[(0 : ZoneIx)].onTime := by decide

theorem witness_WindowAndSupplyAreStored :
    ready.accepts 0 ∧ (65535 < 65536) ∧ (200000 ≤ 200000) ∧ 200000 < 200001 ∧ 4294967295 < 4294967296
    ∧ ([] : List Byte).length ≠ 2 := ⟨accepts_always _ rfl, by decide, by decide, by decide, by decide, by decide⟩

/-- The heat is off and every zone OFF; the first has a setpoint. -/
def cold : State := standby.setZones (standby.zones.set 0 { Zone.reset with setpoint := 1500, implausible := 2 })

theorem witness_HeatSwitchesTheMaster :
    ready.accepts 0 ∧ ready.drive.master = true ∧ ready.zones[(0 : ZoneIx)].state ≠ .off
    ∧ cold.accepts 0 ∧ cold.drive.master ≠ true ∧ cold.inputs.eStop = false ∧ cold.zones[(0 : ZoneIx)].state = .off
    ∧ cold.zones[(0 : ZoneIx)].setpoint ≠ 0
    ∧ (∀ z : ZoneIx, (cold.setInputs { Inputs.reset with eStop := true }).zones[z].state = .off)
    ∧ 1 < (2 : Byte).toNat :=
  ⟨accepts_always _ rfl, rfl, by decide, accepts_always _ rfl, by decide, rfl, by decide, by decide, by decide, by decide⟩

/-- Station figures at ends of their ranges. -/
def edgeStation : Station := ⟨5000, 65000, 1, 100, 30000⟩

/-- An arming record with the longest lot text. -/
def arming : Arming := ⟨2, some (List.replicate 12 0x7E), some 99⟩

theorem arming_fits (n : Nat) (h : 2 ≤ n) : arming.Fits n := by
  refine ⟨⟨by decide, h⟩, ?_, ?_⟩
  · intro l e; cases e; decide
  · intro p e; cases e; decide

theorem witness_StationAndArmingAreStored :
    ready.accepts 0 ∧ edgeStation.Fits ∧ ¬Station.Fits ⟨1000, 1000, 1, 100, 500⟩ ∧ ready.mountedTool = some tool
    ∧ tool.cavityCount ≤ 4 ∧ arming.Fits tool.cavityCount ∧ State.reset.accepts 0 ∧ State.reset.mountedTool = none
    ∧ arming.Fits 4 ∧ ([] : List Byte).length ≠ 10 :=
  ⟨accepts_always _ rfl, ⟨by decide, by decide, by decide, by decide, by decide⟩,
    (by intro h; exact absurd h.emptyThreshold.2.2 (by decide)), by decide, by decide, arming_fits _ (by decide),
    accepts_always _ rfl, by decide, arming_fits _ (by decide), by decide⟩

/-- Arming records a body can carry and ARM refuses: a third cavity, a lot text of thirteen characters, one with a
character below 20h, and no ply. -/
theorem witness_StationAndArmingAreStored_refusals :
    ready.accepts 0 ∧ ready.mountedTool = some tool
    ∧ (⟨3, none, none⟩ : Arming).Carried ∧ ¬(⟨3, none, none⟩ : Arming).Fits tool.cavityCount
    ∧ (⟨1, some (List.replicate 13 0x41), none⟩ : Arming).Carried
    ∧ ¬(⟨1, some (List.replicate 13 0x41), none⟩ : Arming).Fits tool.cavityCount
    ∧ (⟨1, some [0x1F], none⟩ : Arming).Carried ∧ ¬(⟨1, some [0x1F], none⟩ : Arming).Fits tool.cavityCount
    ∧ (⟨1, none, some 0⟩ : Arming).Carried ∧ ¬(⟨1, none, some 0⟩ : Arming).Fits tool.cavityCount
    ∧ ¬(2 ≤ ([1] : List Byte).length) ∧ State.reset.mountedTool = none ∧ State.reset.accepts 0 := by
  refine ⟨accepts_always _ rfl, by decide, ⟨by decide, ?_, ?_⟩, (fun h => absurd h.cavity.2 (by decide)), ⟨by decide, ?_, ?_⟩,
    (fun h => absurd (h.lot _ rfl).2.1 (by decide)), ⟨by decide, ?_, ?_⟩,
    (fun h => absurd ((h.lot _ rfl).2.2 0x1F (by decide)).1 (by decide)), ⟨by decide, ?_, ?_⟩,
    (fun h => absurd (h.ply 0 rfl).1 (by decide)), by decide, by decide, accepts_always _ rfl⟩
  all_goals intro x h; cases h
  all_goals decide

/-- The second cavity is armed. -/
def armed : State := ready.setScale { Scale.reset with arming := some arming }

theorem witness_ScaleWorkBeginsInIdle :
    armed.inputs.resetPin = false ∧ ready.inputs.resetPin = false ∧ (waiting ready).inputs.resetPin = false
    ∧ ([0] : List Byte) ≠ [] ∧ ([0] : List Byte).length ≠ 2
    ∧ armed.scale.capture = .idle ∧ armed.scale.arming = some arming ∧ armed.activeRecipe = some recipe
    ∧ recipe.cavities[arming.cavity - 1]? = some ⟨18200, 600, 45⟩ ∧ armed.accepts 0
    ∧ ready.scale.capture = .idle ∧ ready.scale.arming = none ∧ ready.accepts 0
    ∧ (waiting ready).scale.capture ≠ .idle ∧ (waiting ready).accepts 0
    ∧ 100 ≤ 100 ∧ 65000 ≤ 65000 ∧ 65000 < 65001 :=
  ⟨rfl, rfl, rfl, by decide, by decide, rfl, rfl, by decide, by decide, accepts_always _ rfl, rfl, rfl, accepts_always _ rfl, by decide,
    accepts_always _ rfl, by decide, by decide, by decide⟩

/-- HELD with a stack on the pan, ACCEPT on. -/
def held : State := ready.setScale { Scale.reset with capture := .held, load := .steady, reference := 18700, accept := true }

theorem witness_BridgeSampleWeighsTheStack :
    held.inputs.resetPin = false ∧ ready.inputs.resetPin = false ∧ (waiting ready).inputs.resetPin = false
    ∧ (8388607#24).toInt = 8388607 ∧ (8388609#24).toInt = -8388607 ∧ (8388608#24).toInt = -8388608
    ∧ held.scale.capture = .held ∧ held.scale.load ≠ .empty
    ∧ (∃ t, exec (.bridgeSample 0) held = .next t ∧ t.scale.load = .empty)
    ∧ ready.scale.capture = .idle ∧ (waiting ready).scale.capture = .waiting
    ∧ (∃ t, exec (.bridgeSample 0) (waiting ready) = .next t ∧ t.scale.load ≠ .steady) :=
  ⟨rfl, rfl, rfl, by decide, by decide, by decide, rfl, by decide, ⟨_, rfl, by decide⟩, rfl, rfl, ⟨_, rfl, by decide⟩⟩

/-- Twelve charges are queued. -/
def packed : State := (waiting ready).setQueue (List.replicate 12 ⟨61, 1, 18700, none, none, 0, 9000⟩)

/-- The waiting capture with another tolerance. -/
def strict : State :=
  ready.setScale { (waiting ready).scale with snapshot := some ⟨1, none, none, 18500, 199, 45, 5000⟩ }

theorem witness_CaptureOutcomes :
    (waiting ready).inputs.resetPin = false ∧ packed.inputs.resetPin = false ∧ strict.inputs.resetPin = false
    ∧ (waiting ready).scale.capture = .waiting
    ∧ (waiting ready).scale.snapshot = some ⟨1, none, none, 18500, 600, 45, 5000⟩
    ∧ ((waiting ready).scale.weigh (186986#24).toInt).load = .steady
    ∧ |((waiting ready).scale.weigh (186986#24).toInt).reference - 18500| ≤ 600
    ∧ (waiting ready).queue.length < 12 ∧ 1 ≤ (waiting ready).scale.nextCharge ∧ (waiting ready).scale.nextCharge ≤ 65535
    ∧ (waiting ready).heldCharges.length < 65535 ∧ (waiting ready).scale.nextCharge ∉ (waiting ready).heldCharges
    ∧ 12 ≤ packed.queue.length ∧ packed.scale.capture = .waiting ∧ (packed.scale.weigh (186986#24).toInt).load = .steady
    ∧ strict.scale.snapshot = some ⟨1, none, none, 18500, 199, 45, 5000⟩
    ∧ (strict.scale.weigh (186986#24).toInt).load = .steady
    ∧ 199 < |(strict.scale.weigh (186986#24).toInt).reference - 18500|
    ∧ (waiting ready).notices.list.length < 16 ∧ (waiting ready).scale.load ≠ .steady := by decide

/-- A measurement with fifteen counts taken, and one with fourteen. -/
def measuring (kind : MeasureKind) (taken : Nat) (sum : Int) : State :=
  ready.setScale { Scale.reset with capture := .measuring, measurement := some ⟨kind, taken, sum⟩ }

theorem witness_MeasurementOutcomes :
    (measuring .tare 15 150).inputs.resetPin = false ∧ (measuring .tare 14 0).inputs.resetPin = false
    ∧ (measuring (.span 100) 15 150).inputs.resetPin = false
    ∧ (measuring .tare 15 150).scale.capture = .measuring ∧ (measuring .tare 15 150).scale.measurement = some ⟨.tare, 15, 150⟩
    ∧ ¬((10#24).toInt = 8388607 ∨ (10#24).toInt = -8388607 ∨ (10#24).toInt = -8388608)
    ∧ (8388607#24).toInt = 8388607 ∧ (measuring .tare 14 0).scale.measurement = some ⟨.tare, 14, 0⟩
    ∧ (measuring (.span 100) 15 150).scale.measurement = some ⟨.span 100, 15, 150⟩
    ∧ (0 : Int) < ((150 : Int) + 10).tdiv 16 ∧ ((150 : Int) - 160).tdiv 16 ≤ 0
    ∧ (262143 : Int) < 100 * 65536 / ((150 + 10 : Int).tdiv 16) ∧ (10 : Int) * (655360 - 0) ≤ 100 * 65536
    ∧ (100 : Int) * 65536 < (10 + 1) * (655360 - 0) := by decide

theorem witness_DiscardRemovesOneEntry :
    ready.accepts 0 ∧ CycleInv ready ∧ (ready.queue.map (·.number)).Nodup ∧ ⟨61, 1, 18700, none, some 6, 100, 9000⟩ ∈ ready.queue
    ∧ ready.cycle.state.waits = true ∧ (∀ e ∈ ready.queue, e.number ≠ 0) ∧ ([] : List Byte).length ≠ 2 :=
  ⟨accepts_always _ rfl, ready_cycleInv, by decide, by decide, by decide, by decide, by decide⟩

/-- The press with its run seconds one before the first deadline. -/
def expiring : State := ready.setClocks ⟨0, 8999⟩

theorem witness_SecondAdvanceExpiresCharges :
    expiring.inputs.resetPin = false ∧ (ready.setClocks ⟨0, 4294967295⟩).inputs.resetPin = false
    ∧ CycleInv expiring ∧ expiring.clocks.run < 4294967295
    ∧ expiring.queue.filter (fun e => e.deadline ≤ expiring.clocks.run + 1) ≠ []
    ∧ expiring.notices.list.length + (expiring.queue.filter (fun e => e.deadline ≤ expiring.clocks.run + 1)).length ≤ 16
    ∧ CycleInv (ready.setClocks ⟨0, 4294967295⟩) ∧ 4294967295 ≤ (ready.setClocks ⟨0, 4294967295⟩).clocks.run :=
  ⟨rfl, rfl, ⟨by decide, (by intro i h; cases h; exact ⟨tool, recipe, by decide, rfl⟩), by decide, by decide, by decide, by decide⟩,
    by decide, by decide, by decide,
    ⟨by decide, (by intro i h; cases h; exact ⟨tool, recipe, by decide, rfl⟩), by decide, by decide, by decide, by decide⟩,
    by decide⟩

/-- The last serial is next, and a used zone is not settled. -/
def unsettled : State :=
  ((withZone settling).setRing ⟨[], some 4294967295⟩).setCycle
    { ready.cycle with state := .standby, ready := false, reasons := ⟨false, false, true, false, false, false⟩ }

theorem witness_StartOpensACycle :
    ready.accepts 0 ∧ CycleInv ready ∧ ready.cycle.state.waits = true ∧ ready.cycle.mounted = some 0
    ∧ ready.tools[(0 : SlotIx)] = some tool ∧ tool.active = some recipe ∧ ready.ring.nextSerial = some 1
    ∧ ready.cycle.reasons = ReadyReasons.none
    ∧ unsettled.accepts 0 ∧ CycleInv unsettled ∧ unsettled.cycle.state.waits = true ∧ unsettled.cycle.mounted = some 0
    ∧ unsettled.tools[(0 : SlotIx)] = some tool ∧ unsettled.ring.nextSerial = some 4294967295
    ∧ unsettled.cycle.reasons = { ReadyReasons.none with notSettled := true } :=
  ⟨accepts_always _ rfl, ready_cycleInv, by decide, by decide, by decide, rfl, by decide, by decide,
    accepts_always _ rfl,
    ⟨by decide, (by intro i h; cases h; exact ⟨tool, recipe, by decide, rfl⟩), by decide, by decide, by decide, by decide⟩,
    by decide, by decide, by decide, by decide, by decide⟩

theorem witness_StartRefusals :
    ready.accepts 0 ∧ 2 ≤ ([0, 0] : List Byte).length ∧ 1 < (2 : Byte).toNat ∧ State.reset.accepts 0
    ∧ State.reset.cycle.state.waits = false ∧ standby.accepts 0 ∧ standby.cycle.state.waits = true
    ∧ standby.cycle.reasons.heatOff = true ∧ unsettled.accepts 0 ∧ unsettled.cycle.state.waits = true
    ∧ unsettled.cycle.reasons.notSettled = true :=
  ⟨accepts_always _ rfl, by decide, by decide, accepts_always _ rfl, rfl, accepts_always _ rfl, rfl, rfl,
    accepts_always _ rfl, rfl, rfl⟩

/-- The state with TAKEOUT_CLEAR asserted. -/
def clearOf (s : State) : State := s.setInputs { s.inputs with takeoutClear := true }

theorem witness_AbortActsByState :
    ([0] : List Byte) ≠ [] ∧ (clearOf (ejecting .stalled)).accepts 0
    ∧ (clearOf (ejecting .stalled)).ejector.sub = .stalled ∧ (clearOf (ejecting .stalled)).cycle.state = .ejecting
    ∧ (clearOf (ejecting .stalled)).inputs.takeoutClear = true
    ∧ (clearOf (ejecting .stalled)).ring.records.any (·.opened) = true
    ∧ ready.accepts 0 ∧ ready.cycle.state.running = false ∧ (running .takeout).accepts 0
    ∧ (running .takeout).cycle.state = .takeout ∧ (running .release).cycle.state = .release
    ∧ (running .loading).cycle.state = .loading ∧ (running .loading).inputs.takeoutClear = false
    ∧ ((running .loading).setInputs { Inputs.reset with takeoutClear := true }).inputs.takeoutClear = true
    ∧ (running .loading).ring.records.any (·.opened) = true
    ∧ ((running .loading).ring.records.filter (·.opened)).length ≤ 1
    ∧ (running .curing).cycle.state = .curing ∧ (ejecting .jammed).cycle.state = .ejecting
    ∧ (ejecting .jammed).ejector.sub = .jammed ∧ (ejecting .stalled).ejector.sub = .stalled
    ∧ (ejecting .stalled).inputs.takeoutClear = false :=
  ⟨by decide, accepts_always _ rfl, rfl, rfl, rfl, by decide, accepts_always _ rfl, rfl, accepts_always _ rfl, rfl, rfl, rfl, rfl, rfl, by decide, by decide, rfl, rfl, rfl, rfl, rfl⟩

theorem witness_EmergencyStopRisesAndFalls :
    ready.inputs.resetPin = false ∧ (running .loading).inputs.resetPin = false
    ∧ ready.notices.list.length < 16 ∧ ready.zones[(0 : ZoneIx)].state ≠ .off ∧ PermitInv ready ∧ EjectorInv ready
    ∧ ready.cycle.state.waits = true ∧ (running .loading).cycle.state = .loading ∧ (running .curing).cycle.state = .curing
    ∧ (running .takeout).cycle.state = .takeout ∧ (ejecting .extending).cycle.state = .ejecting
    ∧ (ejecting .extending).ejector.abandonPending = false ∧ (running .curing).cycle.state.running = true
    ∧ (running .curing).ring.records[0]? = some openPart ∧ openPart.opened = true
    ∧ (running .release).cycle.state = .release ∧ (running .release).inputs.pressOpen = false
    ∧ ((running .release).setInputs { Inputs.reset with pressOpen := true }).inputs.pressOpen = true
    ∧ ready.zones[(11 : ZoneIx)].state = .off ∧ (ready.setZones cold.zones).zones[(0 : ZoneIx)].setpoint ≠ 0
    ∧ (ready.setZones cold.zones).drive.master = true :=
  ⟨rfl, rfl, by decide, by decide, ready_permitInv, ready_ejectorInv, rfl, rfl, rfl, rfl, rfl, rfl, rfl, rfl, rfl, rfl, rfl, rfl,
    by decide, by decide, rfl⟩

theorem witness_PressClosedEdges :
    ready.inputs.resetPin = false ∧ (running .loading).inputs.resetPin = false
    ∧ (running .curing).inputs.resetPin = false
    ∧ ready.cycle.state ≠ .loading ∧ (running .loading).cycle.state = .loading ∧ ready.cycle.state ≠ .curing
    ∧ (running .curing).cycle.state = .curing ∧ (running .curing).inputs.pressOpen = false := by decide

theorem witness_PressTimeouts :
    (running .loading).inputs.resetPin = false ∧ (running .release).inputs.resetPin = false
    ∧ (running .loading).activeRecipe = some recipe ∧ (running .loading).cycle.state = .loading
    ∧ (running .loading).inputs.takeoutClear = false ∧ (running .loading).notices.list.length < 16
    ∧ (running .release).activeRecipe = some recipe ∧ (running .release).cycle.state = .release
    ∧ (running .release).cycle.overduePosted = false
    ∧ (clearOf (running .loading)).inputs.resetPin = false ∧ (clearOf (running .loading)).activeRecipe = some recipe
    ∧ (clearOf (running .loading)).cycle.state = .loading ∧ (clearOf (running .loading)).inputs.takeoutClear = true
    ∧ (clearOf (running .loading)).ring.records.any (·.opened) = true := by decide

theorem witness_PressOpenAndTakeoutClear :
    (running .release).inputs.resetPin = false ∧ ready.inputs.resetPin = false
    ∧ (running .takeout).inputs.resetPin = false
    ∧ (running .release).cycle.state = .release ∧ (running .release).inputs.eStop = false ∧ ready.cycle.state ≠ .release
    ∧ ready.cycle.state ≠ .takeout ∧ (running .takeout).cycle.state = .takeout
    ∧ (running .takeout).openRecord = some openPart ∧ (running .takeout).notices.list.length < 16
    ∧ (running .takeout).cycle.mounted = some 0 ∧ (running .takeout).tools[(0 : SlotIx)] = some tool := by decide

theorem witness_RatesAndDoses :
    (-501 : Int) < rising[0].temp ∧ rising[15].temp ≤ 4000 ∧ rising[0].temp ≤ 4000
    ∧ (∀ i j : Fin 16, i < j → rising[i].temp < rising[j].temp)
    ∧ rising[(0 : Fin 15).castSucc].temp ≤ -500 ∧ (-500 : Int) < rising[(0 : Fin 15).succ].temp
    ∧ rising[(14 : Fin 15).castSucc].temp ≤ 3999 ∧ (3999 : Int) < rising[(14 : Fin 15).succ].temp
    ∧ recipe.cavities[1 - 1]? = some ⟨18500, 600, 45⟩ ∧ 1 ≤ 18500 ∧ 18500 ≤ 18700 := by decide

theorem witness_CureSecondAccumulates :
    (running .curing).inputs.resetPin = false
    ∧ (running .curing).cycle.state = .curing ∧ (running .curing).cure.phase = .accumulating
    ∧ (running .curing).mountedTool = some tool ∧ tool.active = some recipe ∧ (running .curing).cure.cavities.length ≤ 4
    ∧ (running .curing).cure.cavities[1]? = some ⟨102400, 102399, none⟩
    ∧ ZoneSet.has tool.cavityZones[(1 : Fin 4)] 1 = true ∧ (running .curing).zones[(1 : ZoneIx)].state ≠ .fault
    ∧ (∀ z : ZoneIx, ZoneSet.has tool.cavityZones[(1 : Fin 4)] z = true →
      (running .curing).zones[(1 : ZoneIx)].temp ≤ (running .curing).zones[z].temp)
    ∧ (running .curing).ring.records[0]? = some openPart ∧ openPart.opened = true := by decide

/-- A cure at its last second but one, with a table whose rate is 1 at every zone's temperature, or 0. -/
def lastSecond (rate : Nat) (elapsed : Nat) : State :=
  ((running .curing).setCure { doses with elapsed := elapsed }).setRates
    (Vector.replicate 4 (Vector.ofFn (fun k => ⟨-500 + 300 * (k.val : Int), rate⟩)))

theorem witness_CureSecondDecidesTheRelease :
    (lastSecond 1 119).inputs.resetPin = false ∧ (lastSecond 0 199).inputs.resetPin = false
    ∧ (lastSecond 0 198).inputs.resetPin = false
    ∧ (lastSecond 1 119).cycle.state = .curing ∧ (lastSecond 1 119).cure.phase = .accumulating
    ∧ (lastSecond 1 119).mountedTool = some tool ∧ tool.active = some recipe
    ∧ (∃ u, exec .cureSecond (lastSecond 1 119) = .next u ∧ (∀ d ∈ u.cure.cavities, d.required ≤ d.dose)
      ∧ recipe.minCure ≤ 119 + 1)
    ∧ (∃ u, exec .cureSecond (lastSecond 0 199) = .next u ∧ ¬(∀ d ∈ u.cure.cavities, d.required ≤ d.dose)
      ∧ recipe.maxCure ≤ 199 + 1)
    ∧ (∃ u, exec .cureSecond (lastSecond 0 198) = .next u ∧ ¬(∀ d ∈ u.cure.cavities, d.required ≤ d.dose)
      ∧ ¬recipe.maxCure ≤ 198 + 1) :=
  ⟨rfl, rfl, rfl, rfl, rfl, by decide, rfl, ⟨_, rfl, by decide, by decide⟩, ⟨_, rfl, by decide, by decide⟩, ⟨_, rfl, by decide, by decide⟩⟩

theorem witness_RetryAndAbandon :
    (ejecting .stalled).accepts 0 ∧ (ejecting .stalled).cycle.state = .ejecting ∧ (ejecting .stalled).ejector.sub = .stalled
    ∧ (ejecting .stalled).ejector.retries < 3 ∧ (ejecting .stalled).inputs.eStop = false
    ∧ ready.accepts 0 ∧ ready.cycle.state ≠ .ejecting ∧ (ejecting .jammed).accepts 0
    ∧ (ejecting .jammed).ejector.sub = .jammed ∧ ([0] : List Byte) ≠ []
    ∧ (clearOf (ejecting .stalled)).accepts 0 ∧ (clearOf (ejecting .stalled)).cycle.state = .ejecting
    ∧ (clearOf (ejecting .stalled)).ejector.sub = .stalled ∧ (clearOf (ejecting .stalled)).inputs.takeoutClear = true
    ∧ (clearOf (ejecting .stalled)).openRecord = some openPart :=
  ⟨accepts_always _ rfl, rfl, rfl, by decide, rfl, accepts_always _ rfl, by decide, accepts_always _ rfl, rfl, by decide,
    accepts_always _ rfl, rfl, rfl, rfl, by decide⟩

/-- EJECTING with an abandonment waiting for the ejector. -/
def abandoning (e : EjectSub) : State := (ejecting e).setEjector { (ejecting e).ejector with abandonPending := true }

theorem witness_EjectorEvents :
    (ejecting .extending).activeRecipe = some recipe ∧ PermitInv (ejecting .extending) ∧ PermitInv ready
    ∧ ready.activeRecipe = some recipe ∧ ready.cycle.state ≠ .ejecting
    ∧ (ejecting .extending).cycle.state = .ejecting ∧ (ejecting .extending).ejector.sub = .extending
    ∧ (ejecting .extending).inputs.ejectAtBack = true
    ∧ ((ejecting .extending).setInputs Inputs.reset).inputs.ejectAtBack = false
    ∧ PermitInv ((ejecting .extending).setInputs Inputs.reset)
    ∧ (ejecting .extending).ejector.abandonPending = false ∧ (ejecting .extending).notices.list.length < 16
    ∧ PermitInv (ejecting .retracting) ∧ (ejecting .retracting).ejector.sub = .retracting
    ∧ PermitInv (ejecting .jammed) ∧ (ejecting .jammed).ejector.sub = .jammed
    ∧ (ejecting .jammed).ejector.abandonPending = false := by unfold PermitInv; decide

theorem witness_EjectorEvents_abandoned :
    (ejecting .extending).inputs.resetPin = false
    ∧ (abandoning .jammed).inputs.resetPin = false ∧ (abandoning .jammed).activeRecipe = some recipe
    ∧ PermitInv (abandoning .jammed) ∧ (abandoning .jammed).cycle.state = .ejecting
    ∧ (abandoning .jammed).ejector.abandonPending = true ∧ (abandoning .jammed).ejector.sub = .jammed
    ∧ PermitInv (abandoning .extending) ∧ (abandoning .extending).ejector.abandonPending = true
    ∧ (abandoning .extending).ejector.sub = .extending ∧ (abandoning .extending).inputs.ejectAtBack = true
    ∧ PermitInv (clearOf (abandoning .extending)) ∧ (clearOf (abandoning .extending)).inputs.takeoutClear = true
    ∧ PermitInv (clearOf (abandoning .retracting)) ∧ (clearOf (abandoning .retracting)).ejector.sub = .retracting
    ∧ (clearOf (abandoning .retracting)).inputs.takeoutClear = true
    ∧ (clearOf (abandoning .retracting)).openRecord = some openPart
    ∧ PermitInv (ejecting .stalled) ∧ (ejecting .stalled).ejector.sub = .stalled := by unfold PermitInv; decide

theorem witness_RingCommandsKeepTheSerials :
    (running .release).accepts 0 ∧ CycleInv (running .release) ∧ RingInv (running .release)
    ∧ (running .release).cycle.state.running = true ∧ ready.accepts 0 ∧ CycleInv ready ∧ RingInv ready
    ∧ ready.cycle.state.running = false ∧ (∀ p ∈ ready.ring.records, p.serial < 4294967295)
    ∧ ([] : List Byte).length ≠ 4 :=
  ⟨accepts_always _ rfl, running_cycleInv, running_ringInv, rfl, accepts_always _ rfl, ready_cycleInv, ready_ringInv,
    rfl, by decide, by decide⟩

/-- The ready press with a command waiting. -/
def next : State := ready.setPending [.secondAdvance]

theorem next_heldInv : HeldInv next := fun h => absurd h (by decide)

theorem witness_EveryStepKeepsTheLineSound : PortInv next ∧ NoticeInv next ∧ HeldInv next ∧ (∃ t, step next = .next t)
    ∧ pinHeld.inputs.resetPin = true ∧ PortInv pinHeld ∧ NoticeInv pinHeld ∧ HeldInv pinHeld :=
  ⟨⟨trivial, rfl, by decide⟩, ⟨by decide, by decide⟩, next_heldInv, ⟨_, rfl⟩, rfl, ⟨trivial, rfl, by decide⟩,
    ⟨by decide, by decide⟩, fun _ => rfl⟩

theorem witness_EveryStepKeepsTheZonesSound : HeldInv next ∧ ZoneInv next ∧ ∃ t, step next = .next t :=
  ⟨next_heldInv, ready_zoneInv, _, rfl⟩

theorem witness_EveryStepKeepsTheScaleSound : ScaleInv next ∧ ∃ t, step next = .next t :=
  ⟨⟨by decide, by decide, by decide, by decide, (by intro m h; cases h), by decide, by decide, by decide⟩, _, rfl⟩

theorem witness_EveryStepKeepsTheToolTableSound : ToolInv next ∧ ∃ t, step next = .next t :=
  ⟨toolInv_of_one _ tool (by decide) (by decide) tool_sound rfl, _, rfl⟩

theorem witness_EveryStepKeepsThePermits : HeldInv next ∧ PermitInv next ∧ EjectorInv next ∧ ∃ t, step next = .next t :=
  ⟨next_heldInv, by unfold PermitInv; decide, ⟨by decide, by decide, by decide, by decide⟩, _, rfl⟩

theorem next_cycleInv : CycleInv next :=
  ⟨by decide, (by intro i h; cases h; exact ⟨tool, recipe, by decide, rfl⟩), by decide, by decide, by decide, by decide⟩

theorem next_ringInv : RingInv next :=
  ⟨by decide, by decide, by decide, by decide, by decide, (by intro n h; cases h; decide), by decide, by decide, by decide⟩

theorem witness_EveryStepKeepsTheCycleSound : HeldInv next ∧ CycleInv next ∧ ∃ t, step next = .next t :=
  ⟨next_heldInv, next_cycleInv, _, rfl⟩

theorem witness_EveryStepKeepsTheRingSound : CycleInv next ∧ ToolInv next ∧ RingInv next ∧ ∃ t, step next = .next t :=
  ⟨next_cycleInv, witness_EveryStepKeepsTheToolTableSound.1, next_ringInv, _, rfl⟩

theorem witness_EveryStepKeepsTheChargesSound :
    ScaleInv next ∧ RingInv next ∧ QueueInv next ∧ ChargeInv next ∧ ∃ t, step next = .next t :=
  ⟨witness_EveryStepKeepsTheScaleSound.1, next_ringInv,
    ⟨by decide, by decide, by decide, (by intro a h; cases h), (by intro p h; cases h)⟩, by unfold ChargeInv; decide, _, rfl⟩

theorem witness_EveryStepKeepsTheCureSound : CycleInv next ∧ RingInv next ∧ CureInv next ∧ ∃ t, step next = .next t :=
  ⟨next_cycleInv, next_ringInv,
    ⟨by decide, by decide, by decide, by decide, (by intro r h; cases h), (by intro h; cases h)⟩, _, rfl⟩

/-! ## Ill-formed commands are refused (R24, R148, R149) -/

theorem test_wellFormed_unknownKind_names_a_kind : (Instr.unknownKind 0x01 0 []).wellFormed = false := by decide

theorem test_wellFormed_body_too_long : ∀ body : List Byte, body.length = 241 →
    (Instr.identify 0 body).wellFormed = false ∧ (Instr.setSerial 0 body).wellFormed = false
      ∧ (Instr.unknownKind 0 0 body).wellFormed = false := by
  intro body h
  simp [Instr.wellFormed, bodyFits, h]

theorem test_wellFormed_reading_out_of_range :
    (Instr.zoneSample 0 (.celsius (-501))).wellFormed = false ∧ (Instr.zoneFaultEntry 0 (.celsius 4001)).wellFormed = false
      ∧ (Instr.settleTimeReached 0 (.celsius 4001)).wellFormed = false
      ∧ (Instr.zoneRecovery 0 (.celsius (-501))).wellFormed = false := by decide

theorem test_wellFormed_discarded_bytes :
    (Instr.telegramDiscarded []).wellFormed = false
    ∧ (Instr.telegramDiscarded (List.replicate 247 ⟨0xC3, false⟩)).wellFormed = false := by decide +kernel

/-- R148: a telegram of length 242 has 246 bytes with its sync byte, and is well-formed whatever its CRC bytes. -/
theorem test_wellFormed_longest_telegram : ∀ (body : List Byte) (high low : Byte), body.length = 240 →
    (cleanly (0xC3 :: (frameContent 0x01 0 body ++ [high, low]))).length = 246
    ∧ (Instr.telegramDiscarded (cleanly (0xC3 :: (frameContent 0x01 0 body ++ [high, low])))).wellFormed = true := by
  intro body high low h
  have n : (cleanly (0xC3 :: (frameContent 0x01 0 body ++ [high, low]))).length = 246 := by
    simp [cleanly, frameContent, h]
  exact ⟨n, by rw [Instr.wellFormed, lineBytesFit, n]; decide⟩

/-! ## The line -/

/-- R148: the CRC over "123456789". -/
theorem test_crc : crc16 [0x31, 0x32, 0x33, 0x34, 0x35, 0x36, 0x37, 0x38, 0x39] = 0x29B1#16 := by decide +kernel

/-- 10.5: the kind bytes that name a kind are those of the table. -/
theorem test_kinds : ∀ k : Fin 256, (commandOf (BitVec.ofNat 8 k.val) []).isSome = kindBytes.contains k.val := by decide +kernel

/-- The state a command leaves. -/
def after (c : Instr) (s : State) : State :=
  match exec c s with
  | .next t => t
  | .fault _ => s
  | .refused _ => s

/-- The answer a command leaves owed. -/
def answer (c : Instr) (s : State) : Option Answer := (after c s).port.answer

/-- R149, R151, 10.5: an IDENTIFY telegram received byte by byte is answered as R152 says. -/
theorem test_telegram_identify :
    (State.reset.receiveAll (cleanly (commandTelegram 0x01 0 []))).port.answer
      = some ⟨0x01, .done, [0x54, 0x5A, 0x01, 0x9C, 3]⟩ := by decide +kernel

/-- R149: a byte without its stop bit, and a length of 1, each end a telegram. -/
theorem test_discarded :
    (after (.telegramDiscarded [⟨0xC3, false⟩, ⟨2, false⟩, ⟨1, true⟩]) State.reset).port = Port.reset
    ∧ (after (.telegramDiscarded [⟨0xC3, false⟩, ⟨1, false⟩]) State.reset).port = Port.reset := by decide

theorem test_gap : (after .interByteGapTimeout (receiving [4, 1])).port.receive = .hunting := by decide

theorem test_unknown_kind : answer (.unknownKind 0x7F 0 []) State.reset = some ⟨0x7F, .unknownKind, []⟩ := by decide

theorem test_bad_guard_first : answer (.unknownKind 0x7F 8 []) State.reset = some ⟨0x7F, .badGuard, []⟩ := by decide

/-- R151: READ STATUS with IF READY is answered PASSED in STANDBY. -/
theorem test_read_status_passed : answer (.readStatus 1 []) standby = some ⟨0x02, .passed, []⟩ := by decide

/-- R153: the part clock passes from 4,294,967,295 to 0, and the run seconds hold. -/
theorem test_clocks_at_their_ends :
    (after .secondAdvance (State.reset.setClocks ⟨4294967295, 4294967295⟩)).clocks = ⟨0, 4294967295⟩ := by decide

theorem test_set_clock : (after (.setClock 0 [0x01, 0x02, 0x03, 0x04]) State.reset).clocks.part = 16909060 := by decide

/-- R156: the seventeenth notice is dropped and sets the marker. -/
theorem test_notice_lapse :
    (NoticeQueue.push ⟨List.replicate 16 ⟨.estop, 0, .absent, none⟩, false, true⟩ ⟨.estop, 1, .absent, none⟩).lapsed = true := by
  decide

/-- R157: POWER_UP is reported and ATTN is negated. -/
theorem test_read_notices :
    answer (.readNotices 0 []) State.reset = some ⟨0x04, .done, [0, 1, 1, 0, 0, 0, 0, 0, 0, 0, 0, 0, 0, 0, 0, 0, 0]⟩
    ∧ (after (.readNotices 0 []) State.reset).notices.attn = false := by decide

/-! ## The tool table -/

/-- Slots 1 and 2 hold other tools (the example of chapter 1). -/
def twoTools : State :=
  State.reset.setTools ((State.reset.tools.set 0 (some { tool with number := 4001 })).set 1 (some { tool with number := 4002 }))

/-- The example of chapter 1: tool 7310, cavities on zones 2, 3, 8, 9 and 4, 5, 10, 11, support 1, 6, 7, 12. -/
def define7310 : List Byte := [0x1C, 0x8E, 2, 0x01, 0x86, 0x06, 0x18, 0, 0, 0, 0, 0x08, 0x61]

/-- It goes into slot 3, new. -/
theorem test_define_tool : answer (.defineTool 0 define7310) twoTools = some ⟨0x10, .done, [3, 0]⟩ := by
  decide +kernel

/-- MOUNT of it is answered NO_RECIPE. -/
theorem test_mount_no_recipe :
    answer (.mount 0 [0x1C, 0x8E]) ((after (.defineTool 0 define7310) twoTools).setPort Port.reset)
      = some ⟨0x14, .noRecipe, []⟩ := by decide +kernel

/-- R5: the mounted tool is not cleared. -/
theorem test_clear_mounted : answer (.clearTool 0 [0x1C, 0x8E]) ready = some ⟨0x11, .inUse, []⟩ := by decide

/-- R10: a first promotion makes revision 1 active. -/
theorem test_stage_recipe : answer (.stageRecipe 0 (stageRecipeBody 7310 recipe)) bare = some ⟨0x12, .done, [1, 0, 0, 1]⟩ := by
  decide +kernel

/-- R14: temperatures that do not rise are refused. -/
theorem test_load_rates : answer (.loadRates 0 (List.replicate 65 0)) State.reset = some ⟨0x13, .badValue, []⟩ := by decide +kernel

/-- R88: UNMOUNT posts how many charges it dropped. -/
theorem test_unmount :
    (after (.unmount 0 []) ready).notices.list[1]? = some ⟨.chargesDropped, 0, .absent, some 2⟩ := by decide

/-! ## Zones and heaters -/

/-- Zone 3 of the example of chapter 2: setpoint 1500, band 50, exit hysteresis 10, settle time 60 s. -/
def zone3 (st : ZoneState) (timer : Nat) : State :=
  withZone { warm with band := 50, settle := 60, state := st, settleTimer := timer }

/-- Sample 1451 in RAMP: SETTLING; then 1448, outside the band and within the hysteresis: 250 ms. -/
theorem test_zone_ramp_to_settling :
    (after (.zoneSample 0 (.celsius 1451)) (zone3 .ramp 0)).zones[(0 : ZoneIx)].state = .settling
    ∧ (after (.zoneSample 0 (.celsius 1448)) (zone3 .settling 0)).zones[(0 : ZoneIx)].settleTimer = 250 := by decide

/-- Sample 1497 at 59,750 ms: SETTLED; 1438 in SETTLED: RAMP. -/
theorem test_zone_settles_and_falls :
    (after (.settleTimeReached 0 (.celsius 1497)) (zone3 .settling 59750)).zones[(0 : ZoneIx)].state = .settled
    ∧ (after (.zoneSample 0 (.celsius 1438)) (zone3 .settled 60000)).zones[(0 : ZoneIx)].state = .ramp := by decide

/-- The thermocouple break of chapter 2: the second open sample, with a last grant of 430. -/
def broken : State :=
  (withZone { suspect with temp := 1492 }).setHeaters (ready.heaters.set 0 { Heater.reset with lastGrant := 430 })

theorem test_zone_fault :
    (after (.zoneFaultEntry 0 .openCircuit) broken).heaters[(0 : ZoneIx)].heldDuty = 430
    ∧ (after (.zoneFaultEntry 0 .openCircuit) broken).notices.list[1]? = some ⟨.zoneFault, 0, .zone 1, some 1492⟩ := by decide

/-- The eighth plausible sample, 1486: RAMP. -/
theorem test_zone_recovery :
    (after (.zoneRecovery 0 (.celsius 1486)) (withZone (faulty 7))).zones[(0 : ZoneIx)].state = .ramp
    ∧ (after (.zoneRecovery 0 (.celsius 1486)) (withZone (faulty 7))).zones[(0 : ZoneIx)].temp = 1486 := by decide

/-- Zone 5 of the control-law case of chapter 3. -/
def zone5 (temp : Int) : Zone := { warm with temp := temp, config := { ZoneConfig.reset with kp := 40, ki := 8 } }

/-- Window n: request 510 and integrator 19840. Window n + 1: request 283 and integrator 19760. -/
theorem test_control_law :
    lawRequest (zone5 1420) { Heater.reset with integrator := 19200, lastRequest := 300, lastGrant := 300 } = 510
    ∧ lawRequest (zone5 1510) { Heater.reset with integrator := 19840, lastRequest := 510, lastGrant := 510 } = 283
    ∧ nextIntegrator (zone5 1510) { Heater.reset with integrator := 19840, lastRequest := 510, lastGrant := 510 } = 19760 := by
  decide

/-- The budget of 9000 W: grants 580, 435, 725 and on-times 1160, 870, 1450 ms. -/
theorem test_budget :
    [800, 600, 1000].map (grantFor 9000 12400000) = [580, 435, 725]
    ∧ [580, 435, 725].map (onTimeFor 2000) = [1160, 870, 1450] := by decide

/-- R55: 1130 and 1125 are stored as 1250, and 0 as 500 with DONE_CLAMPED. -/
theorem test_set_window :
    permittedWindow 1130 = 1250 ∧ permittedWindow 1125 = 1250
    ∧ answer (.setWindow 0 [0, 0]) State.reset = some ⟨0x21, .doneClamped, [0x01, 0xF4]⟩ := by
  decide +kernel

/-- R50: 1 to 999 become 1000. -/
theorem test_set_supply : answer (.setSupply 0 [0, 0, 0, 1]) State.reset = some ⟨0x22, .doneClamped, [0, 0, 0x03, 0xE8]⟩ := by
  decide +kernel

/-- R53: HEAT off puts a SETTLED zone in OFF, and the cycle in STANDBY. -/
theorem test_heat_off :
    (after (.heat 0 [0]) ready).zones[(0 : ZoneIx)].state = .off ∧ (after (.heat 0 [0]) ready).cycle.state = .standby := by
  decide

theorem test_on_time_end : (after (.onTimeEnd 0) (heating 1020)).heaters[(0 : ZoneIx)].output = false := by decide

/-! ## The scale and the queue -/

/-- The table of 4.2: zero offset 12,500, span factor 6554. -/
theorem test_sample_mass :
    ({ Scale.reset with zero := 12500 } : Scale).sampleMass 202500 = 19001
    ∧ ({ Scale.reset with zero := 12500 } : Scale).sampleMass 10000 = -250 := by decide

/-- The worked case of 4.6: a tare whose counts sum to 200,032. -/
theorem test_tare_complete :
    (after (.tareComplete 12502#24) (measuring .tare 15 187530)).scale.zero = 12502 := by decide

/-- And a span of 20000 whose counts sum to 3,400,032. -/
theorem test_span_complete :
    (after (.spanComplete 212502#24) ((measuring (.span 20000) 15 3187530).setScale
      { (measuring (.span 20000) 15 3187530).scale with zero := 12502 })).scale.span = 6553 := by decide

/-- The rails of R61. -/
theorem test_rails : [8388607, -8388607, -8388608, 8388606].map atRail = [true, true, true, false] := by decide

/-- R72: a steady stack within tolerance is admitted as charge 1. -/
theorem test_capture_complete :
    (after (.captureComplete 186986#24) (waiting ready)).queue.map (·.number) = [61, 62, 1]
    ∧ (after (.captureComplete 186986#24) (waiting ready)).scale.accept = true := by decide

/-- R70: the value 0 stands for EMPTY. -/
theorem test_capture_timeout :
    (after .captureTimeout (waiting ready)).notices.list[1]? = some ⟨.captureFailed, 0, .cavity 1, some 0⟩ := by decide

/-- R68: the key begins a capture of the armed cavity, and is ignored with nothing armed. -/
theorem test_capture_key :
    (after (.captureKeyRising false) armed).scale.capture = .waiting
    ∧ (after (.captureKeyRising false) ready).scale.capture = .idle := by decide

theorem test_capture_not_armed : answer (.capture 0 []) ready = some ⟨0x32, .notArmed, []⟩ := by decide

/-- R66: ARM with no tool mounted. -/
theorem test_arm : answer (.arm 0 [1, 0]) State.reset = some ⟨0x31, .wrongState, []⟩ := by decide

/-- R64: an empty threshold at the capacity. -/
theorem test_set_station :
    answer (.setStation 0 [0x03, 0xE8, 0x03, 0xE8, 0, 5, 0x02, 0x58, 0x13, 0x88]) State.reset = some ⟨0x30, .badValue, []⟩ := by
  decide

/-- The example of chapter 5: the last charge for a cavity expires, and the cycle falls to STANDBY. -/
theorem test_charge_expiry :
    (after .chargeExpiry expiring).queue.map (·.number) = [62] ∧ (after .chargeExpiry expiring).cycle.state = .standby
    ∧ (after .chargeExpiry expiring).notices.list[1]? = some ⟨.chargeExpired, 1, .charge 61, some 1⟩ := by decide

/-- R86: DISCARD answers cavity and mass. -/
theorem test_discard : answer (.discard 0 [0, 62]) ready = some ⟨0x38, .done, [2, 0x47, 0x18]⟩ := by decide

theorem test_list_charges_start : answer (.listCharges 0 [12]) ready = some ⟨0x39, .badValue, []⟩ := by decide

/-! ## The cycle -/

/-- The production cycle of chapter 6: START gives serial 147 and charges 61 and 62. -/
theorem test_start :
    answer (.start 5 []) (clean.setRing ⟨[], some 147⟩) = some ⟨0x40, .done, [0, 0, 0, 147, 0, 61, 0, 62]⟩
    ∧ (after (.start 5 []) (clean.setRing ⟨[], some 147⟩)).cycle.state = .loading := by decide

/-- R97: HEAT_OFF comes before NO_CHARGE and NOT_SETTLED. -/
theorem test_start_refused : answer (.start 0 [1]) standby = some ⟨0x40, .heatOff, []⟩ := by decide

/-- R100: the press closes and the cure begins. -/
theorem test_press_closed :
    (after .pressClosedRising (running .loading)).cycle.state = .curing
    ∧ (after .pressClosedRising (running .loading)).cycle.closePermit = false := by decide

/-- R101: the press opens early. -/
theorem test_opened_early :
    (after .pressClosedFalling (running .curing)).cycle.state = .release
    ∧ ((after .pressClosedFalling (running .curing)).ring.records.map (·.outcome)) = [.aborted] := by decide

/-- The emergency stop of chapter 6: RELEASE, ABORTED, and the notice with the serial. -/
theorem test_estop_in_curing :
    (after .eStopRising (running .curing)).cycle.state = .release
    ∧ (after .eStopRising (running .curing)).notices.list[1]? = some ⟨.estop, 0, .serial 147, none⟩
    ∧ (after .eStopRising (running .curing)).cycle.openPermit = false := by decide

/-- At its falling edge PRESS_OPEN, asserted, sends the cycle on to EJECTING. -/
theorem test_estop_falls_in_release :
    (after .eStopFalling ((running .release).setInputs { Inputs.reset with eStop := true, pressOpen := true })).cycle.state
      = .ejecting := by decide

theorem test_close_timeout :
    (after .closeTimeout (running .loading)).cycle.state = .takeout
    ∧ (after .closeTimeout (running .loading)).notices.list[1]? = some ⟨.closeOverdue, 0, .serial 147, some 30⟩ := by decide

/-- R102: OPEN_OVERDUE is posted once. -/
theorem test_open_overdue :
    (after .openOverdue (running .release)).notices.list.length = 2
    ∧ (after .openOverdue (after .openOverdue (running .release))).notices.list.length = 2 := by decide

theorem test_press_open : (after (.pressOpenRising false) (running .release)).ejector.fwd = true := by decide

/-- R104: the record closes, and CLEAN takes its verdict. -/
theorem test_takeout_clear :
    (after (.takeoutClearRising false) (running .takeout)).cycle.clean = true
    ∧ (after (.takeoutClearRising false) (running .takeout)).notices.list[1]? = some ⟨.partClosed, 0, .serial 147, some 1⟩ := by
  decide

theorem test_abort : answer (.abort 0 []) (running .curing) = some ⟨0x41, .done, [5]⟩ := by decide

/-! ## The cure -/

/-- The worked case of 7.2, and charge 43 beside it. -/
theorem test_required_dose : requiredDose 420 150 19055 18500 = 112358 ∧ requiredDose 420 150 18190 18200 = 107520 := by decide

/-- Rate table 2 of 7.3, with other points between those it names. -/
def table2 : RateTable :=
  #v[⟨600, 0⟩, ⟨1000, 20⟩, ⟨1400, 180⟩, ⟨1450, 800⟩, ⟨1500, 1000⟩, ⟨1550, 1180⟩, ⟨1600, 1200⟩, ⟨1700, 1100⟩,
     ⟨1800, 1000⟩, ⟨2000, 900⟩, ⟨2200, 800⟩, ⟨2500, 700⟩, ⟨2800, 500⟩, ⟨3000, 400⟩, ⟨3200, 300⟩, ⟨3300, 180⟩]

theorem test_rates : [1473, 1490, 1500, 3273, 550].map (rateFor table2) = [892, 960, 1000, 212, 0] := by decide

/-- R121: a cure met at its minimum, and one undercured at its maximum. -/
theorem test_cure_met : (after .cureSecond (lastSecond 1 119)).notices.list[1]? = some ⟨.cureMet, 0, .serial 147, some 120⟩ := by
  decide

/-- R118: the record's least and greatest governing temperature. -/
theorem test_cure_extremes :
    (after .cureSecond (running .curing)).ring.records.map (·.tg) = [some (1495, 1495)] := by decide

theorem test_undercured :
    (after .maximumCureReached (lastSecond 0 199)).notices.list[1]? = some ⟨.undercured, 0, .serial 147, some 2⟩ := by decide

/-! ## Ejection -/

/-- The stall of chapter 8: one stroke counted, EJECT_FWD off, the notice's value 1. -/
theorem test_stall :
    (after .ejectStall ((ejecting .extending).setInputs Inputs.reset)).ejector.sub = .retracting
    ∧ (after .ejectStall ((ejecting .extending).setInputs Inputs.reset)).notices.list[1]?
      = some ⟨.ejectStall, 0, .serial 147, some 1⟩ := by decide

/-- The back position after a stall gives STALLED; after stroke 1 of 2 it gives stroke 2. -/
theorem test_back :
    (after .ejectAtBackRising ((ejecting .retracting).setEjector
      { (ejecting .retracting).ejector with stalledMark := true })).ejector.sub = .stalled
    ∧ (after .ejectAtBackRising (ejecting .retracting)).ejector.sub = .extending := by decide

theorem test_forward :
    (after (.ejectAtFwdRising false) ((ejecting .extending).setInputs Inputs.reset)).ejector.strokes = 2 := by decide

theorem test_jam : (after .ejectJam (ejecting .retracting)).ejector.sub = .jammed := by decide

/-- RETRY EJECT answers EXTENDING and one retry. -/
theorem test_retry : answer (.retryEject 0 []) (ejecting .stalled) = some ⟨0x42, .done, [1, 1]⟩ := by decide

theorem test_abandon :
    (after (.abandonEject 0 []) (ejecting .stalled)).ring.records.map (·.outcome) = [.ejectAbandoned]
    ∧ (after (.abandonEject 0 []) (ejecting .stalled)).cycle.state = .takeout := by decide

/-- R99: CLOSE_PERMIT follows EJECT_AT_BACK in LOADING. -/
theorem test_back_falling : (after .ejectAtBackFalling (running .loading)).cycle.closePermit = false := by decide

/-! ## The ring -/

/-- R146: an OPEN record stops the release. -/
theorem test_release_parts :
    answer (.releaseParts 0 [0xFF, 0xFF, 0xFF, 0xFF]) ((running .release).setRing
      ⟨[{ openPart with serial := 146, opened := false }, openPart], some 148⟩) = some ⟨0x52, .done, [1]⟩ := by decide

/-- R144: SET SERIAL with a record OPEN, and a value at the newest serial. -/
theorem test_set_serial :
    answer (.setSerial 0 [0, 0, 0, 200]) (running .release) = some ⟨0x53, .wrongState, []⟩
    ∧ answer (.setSerial 0 [0, 0, 0, 147]) (ready.setRing ⟨[{ openPart with opened := false }], some 148⟩)
      = some ⟨0x53, .badValue, []⟩ := by decide

/-- R145: no record has the serial. -/
theorem test_read_part : answer (.readPart 0 [0, 0, 0, 1]) (running .release) = some ⟨0x50, .notFound, []⟩ := by decide

/-- R144, R145: the oldest record is reported from its serial on. -/
theorem test_read_oldest :
    ((answer (.readOldestPart 0 []) (running .release)).map (fun a => a.body.take 8)) = some [0, 0, 0, 147, 0, 0x1C, 0x8E, 1] := by
  decide

/-- R20: a zone number of 0 is refused. -/
theorem test_set_zone : answer (.setZone 0 (List.replicate 19 0)) State.reset = some ⟨0x20, .badValue, []⟩ := by decide +kernel

/-- R36: a zone number above 12 is refused. -/
theorem test_read_zone : answer (.readZone 0 [13]) State.reset = some ⟨0x03, .badValue, []⟩ := by decide

/-! ## RESET held, and what RESTART keeps -/

/-- R156: while RESET is held ATTN is negated and no command acts; released, POWER_UP is queued. -/
theorem test_reset_held :
    pinHeld.notices.attn = false ∧ answer (.identify 0 []) pinHeld = none
    ∧ (after (.powerOnReset false) pinHeld).notices.list.map (·.kind) = [.powerUp]
    ∧ (after (.powerOnReset false) pinHeld).notices.attn = true := by decide

/-- R70, R156: nor does a capture time out, even in a state that no run reaches. -/
theorem test_held_capture :
    exec .captureTimeout ((waiting ready).setInputs { Inputs.reset with resetPin := true })
      = .next ((waiting ready).setInputs { Inputs.reset with resetPin := true }) := by rfl

/-- R37: RESTART keeps the stale mark of a zone in FAULT whose implausible run is 0. -/
theorem test_restart_keeps_the_stale_mark :
    (after .answerSent (owing true (withZone { faulty 3 with implausible := 0 }))).zones[(0 : ZoneIx)].stale = true := by decide

/-- R93: the open timer has no bound. -/
theorem test_open_timer_counts_on :
    ((running .release).elapse 21000).timers.opening = 21000
    ∧ (((running .release).elapse 21000).elapse 1).timers.opening = 21001 := by decide

/-- R149: C3h after a gap over 20 ms starts a new telegram. -/
theorem test_sync_after_a_gap :
    (after .syncByteReceived (silent 21)).port.receive = .receiving []
    ∧ (after .syncByteReceived (silent 20)).port.receive = .receiving [4, 1, 0xC3] := by decide

/-! ## The model's own queue -/

/-- A step takes the first command and leaves the second waiting. -/
theorem test_step_takes_the_first :
    ∃ t, step (State.reset.setPending [.syncByteReceived, .windowStart]) = .next t ∧ t.pending = [.windowStart]
      ∧ t.port.receive = .receiving [] := ⟨_, rfl, by decide, by decide⟩

/-- No row gives bits, so no word spells a command. -/
theorem test_no_word_spells_a_command : decodeTableWord 16 5 = none ∧ State.reset.withFetchWord 16 5 = State.reset := by decide

end Sys2Proof.Tests
end

section
/-! PROOF. The fields of a command body, read back from the bytes a sender forms (10.5): what stands at a place of a
body, and that a two-byte field holds what was written into it. -/

namespace Sys2Proof.Machine

/-! ## Single bytes -/

@[simp] theorem u8_cons_zero (b : Byte) (rest : List Byte) : u8 (b :: rest) 0 = b.toNat := rfl

@[simp] theorem u8_cons_succ (b : Byte) (rest : List Byte) (i : Nat) : u8 (b :: rest) (i + 1) = u8 rest i := rfl

@[simp] theorem toNat_byte (n : Nat) : (byte n).toNat = n % 256 := BitVec.toNat_ofNat n 8

@[simp] theorem length_be16 (n : Nat) : (be16 n).length = 2 := rfl

@[simp] theorem length_be16s (i : Int) : (be16s i).length = 2 := rfl

theorem u8_append_left (l r : List Byte) (i : Nat) (h : i < l.length) : u8 (l ++ r) i = u8 l i := by
  simp [u8, List.getElem?_append_left h]

theorem u8_append_right (l r : List Byte) (i : Nat) : u8 (l ++ r) (l.length + i) = u8 r i := by
  simp [u8, List.getElem?_append_right]

/-! ## Two-byte fields -/

@[simp] theorem u16_cons_succ (b : Byte) (rest : List Byte) (i : Nat) : u16 (b :: rest) (i + 1) = u16 rest i := rfl

/-- A two-byte field that leads a body reads as the number written into it. -/
theorem u16_be16_append (n : Nat) (rest : List Byte) (h : n < 65536) : u16 (be16 n ++ rest) 0 = n := by
  simp [u16, be16]
  omega

theorem u16_be16 (n : Nat) (h : n < 65536) : u16 (be16 n) 0 = n := by
  simpa using u16_be16_append n [] h

/-- A signed two-byte field that leads a body reads as the integer written into it. -/
theorem s16_be16s_append (i : Int) (rest : List Byte) (low : -32768 ≤ i) (high : i ≤ 32767) :
    s16 (be16s i ++ rest) 0 = i := by
  have field : u16 (be16s i ++ rest) 0 = (BitVec.ofInt 16 i).toNat := u16_be16_append _ _ (BitVec.isLt _)
  simp only [s16, field, BitVec.toNat_ofInt]
  split <;> omega

/-! ## Entries of one width -/

/-- Byte r of entry j, where entries of w bytes each stand one after another. -/
theorem u8_flatten_entries {α : Type} (f : α → List Byte) (w : Nat) (width : ∀ a, (f a).length = w) (l : List α)
    (j r : Nat) (hj : j < l.length) (hr : r < w) : u8 (l.map f).flatten (w * j + r) = u8 (f l[j]) r := by
  induction l generalizing j with
  | nil => simp at hj
  | cons a l ih =>
    cases j with
    | zero => simpa using u8_append_left _ _ _ (by rwa [width a])
    | succ j =>
      have place : w * (j + 1) + r = (f a).length + (w * j + r) := by rw [width a, Nat.mul_succ]; omega
      rw [List.map_cons, List.flatten_cons, place, u8_append_right]
      exact ih j (by simpa using hj)

/-- The two-byte field at place r of entry j. -/
theorem u16_flatten_entries {α : Type} (f : α → List Byte) (w : Nat) (width : ∀ a, (f a).length = w) (l : List α)
    (j r : Nat) (hj : j < l.length) (hr : r + 1 < w) : u16 (l.map f).flatten (w * j + r) = u16 (f l[j]) r := by
  simp only [u16, Nat.add_assoc, u8_flatten_entries f w width l j _ hj hr,
    u8_flatten_entries f w width l j r hj (by omega)]

end Sys2Proof.Machine
end

section
/-! PROOF. The tool table (R1): the slot that holds a number, and the lowest empty slot (R4). -/

namespace Sys2Proof.Machine

theorem mem_allSlots (i : SlotIx) : i ∈ allSlots := by
  revert i
  decide

theorem allSlots_eq_finRange : allSlots = List.finRange 8 := rfl

section
variable {s : State}

/-- The slot that holds a tool's number is found, since no other slot holds it (R1). -/
theorem State.slotOf_of_holds (inv : ToolInv s) {i : SlotIx} {t : Tool} (h : s.tools[i] = some t) :
    s.slotOf t.number = some i := by
  have named : t.number ≠ 0 := Nat.one_le_iff_ne_zero.1 (inv.sound i t h).number.1
  rw [State.slotOf, if_neg named]
  cases found : allSlots.find? (fun j => match s.tools[j] with | none => false | some u => u.number == t.number) with
  | none => simpa [h] using List.find?_eq_none.1 found i (mem_allSlots i)
  | some j =>
    have holds := List.find?_some found
    cases hj : s.tools[j] with
    | none => simp [hj] at holds
    | some u => rw [inv.distinct j i u t hj h (by simpa [hj] using holds)]

/-- A number that no slot holds is in no slot. -/
theorem State.slotOf_of_absent {n : Nat} (absent : ∀ (i : SlotIx) (t : Tool), s.tools[i] = some t → t.number ≠ n) :
    s.slotOf n = none := by
  rw [State.slotOf]
  split
  · rfl
  · refine List.find?_eq_none.2 fun i _ => ?_
    cases h : s.tools[i] with
    | none => simp
    | some t => simpa using absent i t h

/-- An empty slot with none below it is the one a new tool takes (R4). -/
theorem State.emptySlot_of_lowest {i : SlotIx} (empty : s.tools[i] = none)
    (lowest : ∀ j : SlotIx, j < i → s.tools[j] ≠ none) : s.emptySlot = some i := by
  rw [State.emptySlot, allSlots_eq_finRange, List.find?_eq_some_iff_getElem]
  refine ⟨Option.isNone_iff_eq_none.2 empty, i.val, by simp, by simp, fun j below => ?_⟩
  simpa [Option.isSome_iff_ne_none] using lowest ⟨j, by omega⟩ below

/-- A table with no empty slot gives none. -/
theorem State.emptySlot_of_full (full : ∀ i : SlotIx, s.tools[i] ≠ none) : s.emptySlot = none :=
  List.find?_eq_none.2 fun i _ => by simpa using full i

theorem State.isMounted_iff (s : State) (i : SlotIx) : s.isMounted i = true ↔ s.cycle.mounted = some i := beq_iff_eq

theorem State.isMounted_eq_false {i : SlotIx} (other : s.cycle.mounted ≠ some i) : s.isMounted i = false :=
  beq_false_of_ne other

end

/-! ## The port's receive state is no part of the table -/

section
variable (s : State)

theorem State.hunt_slotOf (n : Nat) : s.hunt.slotOf n = s.slotOf n := rfl
theorem State.hunt_emptySlot : s.hunt.emptySlot = s.emptySlot := rfl

end

/-- A tool with no recipe and revision 0 redefines a tool: the slot keeps its revision (R4). -/
theorem State.writeTool_held (s : State) {i : SlotIx} {old : Tool} (h : s.tools[i] = some old) (t : Tool) :
    s.writeTool i t = s.setTools (s.tools.set i (some { t with revision := old.revision })) := by
  rw [State.writeTool]
  simp [h]

/-- A new tool is written as it is, with revision 0 (R4). -/
theorem State.writeTool_empty (s : State) {i : SlotIx} (h : s.tools[i] = none) (t : Tool) (fresh : t.revision = 0) :
    s.writeTool i t = s.setTools (s.tools.set i (some t)) := by
  rw [State.writeTool]
  simp [h, ← fresh]

end Sys2Proof.Machine
end

section
/-! PROOF. DEFINE TOOL and CLEAR TOOL (R3 to R5): a body read back as the tool it defines, the tests of R3, and
the statement. -/

namespace Sys2Proof.Machine

/-! ## The tool a body defines -/

/-- The figures in the fields of a DEFINE TOOL body (10.5). -/
structure ToolFields where
  number : Nat
  count : Nat
  sets : Vector Nat 4
  support : Nat

/-- The figures of a tool. -/
def Tool.fields (t : Tool) : ToolFields := ⟨t.number, t.cavityCount, t.cavityZones.map BitVec.toNat, t.support.toNat⟩

/-- The body that carries the figures. -/
def ToolFields.body (f : ToolFields) : List Byte :=
  be16 f.number ++ byte f.count :: (be16 f.sets[0] ++ be16 f.sets[1] ++ be16 f.sets[2] ++ be16 f.sets[3] ++ be16 f.support)

/-- The tool the figures define, with no recipe and revision 0 (R4). -/
def ToolFields.tool (f : ToolFields) : Tool :=
  ⟨f.number, f.count, f.sets.map (BitVec.ofNat 12), BitVec.ofNat 12 f.support, none, none, 0⟩

/-- The figures fit their fields: two bytes each, and one for the count. -/
structure ToolFields.Fit (f : ToolFields) : Prop where
  number : f.number < 65536
  count : f.count < 256
  sets : ∀ k : Fin 4, f.sets[k] < 65536
  support : f.support < 65536

/-- The tests of R3 on the figures: number and count in range, only zones 1 to 12, a set for each cavity and for no
other, and support zones in no cavity's set. -/
structure ToolFields.Sound (f : ToolFields) : Prop where
  number : f.number ≠ 0
  count : 1 ≤ f.count ∧ f.count ≤ 4
  sets : ∀ k : Fin 4, f.sets[k] < 4096
  support : f.support < 4096
  cavities : ∀ k : Fin 4, (k.val < f.count → f.sets[k] ≠ 0) ∧ (f.count ≤ k.val → f.sets[k] = 0)
  apart : ∀ k : Fin 4, f.support &&& f.sets[k] = 0

theorem length_defineToolBody (t : Tool) : (defineToolBody t).length = 13 := rfl

theorem defineToolBody_eq (t : Tool) : defineToolBody t = t.fields.body := by
  simp [defineToolBody, Tool.fields, ToolFields.body]

/-- The figures of a tool with no recipe and revision 0 define it. -/
theorem Tool.tool_fields (t : Tool) (active : t.active = none) (staged : t.staged = none) (revision : t.revision = 0) :
    t.fields.tool = t := by
  obtain ⟨number, count, sets, support, _, _, _⟩ := t
  cases active
  cases staged
  cases revision
  simp [Tool.fields, ToolFields.tool, Function.comp_def]

theorem zoneSet_eq_zero_iff {a : Nat} (h : a < 4096) : BitVec.ofNat 12 a = 0 ↔ a = 0 := by
  rw [← BitVec.toNat_inj]
  simp [Nat.mod_eq_of_lt h]

/-- A cavity has no zones just where its figure is 0. -/
theorem tool_set_eq_zero_iff {f : ToolFields} (sets : ∀ k : Fin 4, f.sets[k] < 4096) (k : Fin 4) :
    f.tool.cavityZones[k] = 0 ↔ f.sets[k] = 0 := by
  simpa [ToolFields.tool] using zoneSet_eq_zero_iff (sets k)

/-- The support zones are apart from a cavity's just where their figures have no bit in common. -/
theorem tool_support_apart_iff {f : ToolFields} (support : f.support < 4096) (k : Fin 4) :
    f.tool.support &&& f.tool.cavityZones[k] = 0 ↔ f.support &&& f.sets[k] = 0 := by
  have common := zoneSet_eq_zero_iff (a := f.support &&& f.sets[k]) (Nat.and_le_left.trans_lt support)
  rw [BitVec.ofNat_and] at common
  simpa [ToolFields.tool] using common

/-- The figures of a sound tool fit their fields. -/
theorem ToolSound.fit {t : Tool} (sound : ToolSound t) : t.fields.Fit where
  number := Nat.lt_succ_of_le sound.number.2
  count := sound.cavities.2.trans_lt (by decide)
  sets k := by simpa [Tool.fields] using (t.cavityZones[k]).isLt.trans (by decide)
  support := t.support.isLt.trans (by decide)

/-- The figures of a sound tool pass the tests of R3. -/
theorem ToolSound.fields_sound {t : Tool} (sound : ToolSound t) : t.fields.Sound where
  number := Nat.one_le_iff_ne_zero.1 sound.number.1
  count := sound.cavities
  sets k := by simpa [Tool.fields] using (t.cavityZones[k]).isLt
  support := t.support.isLt
  cavities k := by
    obtain ⟨used, unused, -⟩ := sound.zones k
    simpa [Tool.fields, ← BitVec.toNat_inj] using And.intro used unused
  apart k := by
    obtain ⟨-, -, apart⟩ := sound.zones k
    simpa [Tool.fields, ← BitVec.toNat_inj] using apart

section
variable {f : ToolFields}

theorem u16_body_set (fit : f.Fit) (k : Fin 4) : u16 f.body (3 + 2 * k.val) = f.sets[k] := by
  match k with
  | 0 => exact u16_be16 _ (fit.sets 0)
  | 1 => exact u16_be16 _ (fit.sets 1)
  | 2 => exact u16_be16 _ (fit.sets 2)
  | 3 => exact u16_be16 _ (fit.sets 3)

theorem u16_body_support (fit : f.Fit) : u16 f.body 11 = f.support := u16_be16 _ fit.support

theorem zoneSetAt_body (fit : f.Fit) (k : Fin 4) : zoneSetAt f.body (3 + 2 * k.val) = BitVec.ofNat 12 f.sets[k] := by
  rw [zoneSetAt, u16_body_set fit]

theorem cavitySetsOf_body (fit : f.Fit) : cavitySetsOf f.body = f.sets.map (BitVec.ofNat 12) := by
  have sets : cavitySetsOf f.body = Vector.ofFn (fun k : Fin 4 => zoneSetAt f.body (3 + 2 * k.val)) := rfl
  ext k hk : 1
  rw [sets]
  simpa using zoneSetAt_body fit ⟨k, hk⟩

/-- The fields of a body are read as they were written. -/
theorem toolOf_body (fit : f.Fit) : toolOf f.body = f.tool := by
  have number : u16 f.body 0 = f.number := u16_be16_append _ _ fit.number
  have count : u8 f.body 2 = f.count := (toNat_byte f.count).trans (Nat.mod_eq_of_lt fit.count)
  have support : zoneSetAt f.body 11 = BitVec.ofNat 12 f.support := by rw [zoneSetAt, u16_body_support fit]
  rw [toolOf, number, count, support, cavitySetsOf_body fit, ToolFields.tool]

/-- The zone sets of a body name only zones 1 to 12 just if each figure is below 4096. -/
theorem zoneSetsInRange_body (fit : f.Fit) : [3, 5, 7, 9, 11].all (zoneSetInRange f.body) = true
    ↔ (∀ k : Fin 4, f.sets[k] < 4096) ∧ f.support < 4096 := by
  have places : [3, 5, 7, 9, 11] = (List.finRange 4).map (fun k => 3 + 2 * k.val) ++ [11] := rfl
  rw [places]
  simp [zoneSetInRange, u16_body_set fit, u16_body_support fit]

/-- Tests 2 to 7 of R3, on the tool a body defines. -/
theorem toolInRange_iff (body : List Byte) : toolInRange body = true ↔
    (toolOf body).number ≠ 0 ∧ (1 ≤ (toolOf body).cavityCount ∧ (toolOf body).cavityCount ≤ 4)
    ∧ [3, 5, 7, 9, 11].all (zoneSetInRange body) = true
    ∧ (∀ k : Fin 4, (k.val < (toolOf body).cavityCount → (toolOf body).cavityZones[k] ≠ 0)
      ∧ ((toolOf body).cavityCount ≤ k.val → (toolOf body).cavityZones[k] = 0))
    ∧ ∀ k : Fin 4, (toolOf body).support &&& (toolOf body).cavityZones[k] = 0 := by
  have cavities : ([0, 1, 2, 3] : List (Fin 4)) = List.finRange 4 := rfl
  have either (k n : Nat) (z : ZoneSet) :
      (if k < n then decide (z ≠ 0) else decide (z = 0)) = true ↔ (k < n → z ≠ 0) ∧ (n ≤ k → z = 0) := by
    by_cases h : k < n
    · simp [h]
    · simp [h, not_lt.1 h]
  simp only [toolInRange, cavities, Bool.and_eq_true, List.all_eq_true (l := List.finRange 4), List.mem_finRange,
    forall_const, either, decide_eq_true_eq, and_assoc]

/-- A body passes the tests of R3 just if its figures are sound. -/
theorem toolInRange_body (fit : f.Fit) : toolInRange f.body = true ↔ f.Sound := by
  rw [toolInRange_iff, toolOf_body fit, zoneSetsInRange_body fit]
  constructor
  · rintro ⟨number, count, ⟨sets, support⟩, cavities, apart⟩
    simp only [ne_eq, tool_set_eq_zero_iff sets, tool_support_apart_iff support] at cavities apart
    exact ⟨number, count, sets, support, cavities, apart⟩
  · rintro ⟨number, count, sets, support, cavities, apart⟩
    simp only [ne_eq, tool_set_eq_zero_iff sets, tool_support_apart_iff support]
    exact ⟨number, count, ⟨sets, support⟩, cavities, apart⟩

end

/-! ## What DEFINE TOOL answers -/

section
variable (s : State) (body : List Byte)

theorem defineToolCommand_badLength (length : body.length ≠ 13) :
    defineToolCommand body s = .refuse s .badLength := by
  rw [defineToolCommand, beq_false_of_ne length, Reply.ofLength_false]

theorem defineToolCommand_badValue (length : body.length = 13) (range : toolInRange body = false) :
    defineToolCommand body s = .refuse s .badValue := by
  simp [defineToolCommand, length, range]

theorem defineToolCommand_inUse (length : body.length = 13) (range : toolInRange body = true) {i : SlotIx}
    (held : s.slotOf (u16 body 0) = some i) (mounted : s.cycle.mounted = some i) :
    defineToolCommand body s = .refuse s .inUse := by
  simp [defineToolCommand, length, range, held, (s.isMounted_iff i).2 mounted]

theorem defineToolCommand_redefine (length : body.length = 13) (range : toolInRange body = true) {i : SlotIx}
    (held : s.slotOf (u16 body 0) = some i) (other : s.cycle.mounted ≠ some i) :
    defineToolCommand body s = .done (s.writeTool i (toolOf body)) [byte i.number, 1] := by
  simp [defineToolCommand, length, range, held, State.isMounted_eq_false other]

theorem defineToolCommand_tableFull (length : body.length = 13) (range : toolInRange body = true)
    (absent : s.slotOf (u16 body 0) = none) (full : s.emptySlot = none) :
    defineToolCommand body s = .refuse s .tableFull := by
  simp [defineToolCommand, length, range, absent, full]

theorem defineToolCommand_define (length : body.length = 13) (range : toolInRange body = true)
    (absent : s.slotOf (u16 body 0) = none) {i : SlotIx} (empty : s.emptySlot = some i) :
    defineToolCommand body s = .done (s.writeTool i (toolOf body)) [byte i.number, 0] := by
  simp [defineToolCommand, length, range, absent, empty]

/-! ## What CLEAR TOOL answers -/

theorem clearToolCommand_badLength (length : body.length ≠ 2) : clearToolCommand body s = .refuse s .badLength := by
  rw [clearToolCommand, beq_false_of_ne length, Reply.ofLength_false]

theorem clearToolCommand_unknownTool (length : body.length = 2) (absent : s.slotOf (u16 body 0) = none) :
    clearToolCommand body s = .refuse s .unknownTool := by
  simp [clearToolCommand, length, absent]

theorem clearToolCommand_inUse (length : body.length = 2) {i : SlotIx} (held : s.slotOf (u16 body 0) = some i)
    (mounted : s.cycle.mounted = some i) : clearToolCommand body s = .refuse s .inUse := by
  simp [clearToolCommand, length, held, (s.isMounted_iff i).2 mounted]

theorem clearToolCommand_done (length : body.length = 2) {i : SlotIx} (held : s.slotOf (u16 body 0) = some i)
    (other : s.cycle.mounted ≠ some i) : clearToolCommand body s = .done (s.setTools (s.tools.set i none)) [] := by
  simp [clearToolCommand, length, held, State.isMounted_eq_false other]

end

section
variable {s : State} {guard : Byte}

/-- DEFINE TOOL accepted is carried out by its own rule, over the port that hunts again (R150, R151). -/
theorem exec_defineTool (body : List Byte) (h : s.accepts guard) : exec (.defineTool guard body) s
    = .next ((defineToolCommand body s.hunt).state.owe 0x10 (defineToolCommand body s.hunt).status
        (defineToolCommand body s.hunt).body) :=
  congrArg _ (s.take_accepts 0x10 guard (defineToolCommand body) h)

/-- CLEAR TOOL accepted is carried out by its own rule, over the port that hunts again (R150, R151). -/
theorem exec_clearTool (body : List Byte) (h : s.accepts guard) : exec (.clearTool guard body) s
    = .next ((clearToolCommand body s.hunt).state.owe 0x11 (clearToolCommand body s.hunt).status
        (clearToolCommand body s.hunt).body) :=
  congrArg _ (s.take_accepts 0x11 guard (clearToolCommand body) h)

/-! ## DEFINE TOOL carried out (R3, R4) -/

/-- Figures that fail a test of R3 are refused BAD_VALUE. -/
theorem exec_defineTool_unsound (h : s.accepts guard) {f : ToolFields} (fit : f.Fit) (unsound : ¬f.Sound) :
    exec (.defineTool guard f.body) s = .next (s.answering 0x10 .badValue []) := by
  have range : toolInRange f.body = false := by rwa [Bool.eq_false_iff, ne_eq, toolInRange_body fit]
  rw [exec_defineTool _ h, defineToolCommand_badValue _ _ rfl range]
  rfl

section
variable {t : Tool}

/-- The body of a sound tool passes the tests of R3. -/
theorem toolInRange_defineToolBody (sound : ToolSound t) : toolInRange (defineToolBody t) = true := by
  rw [defineToolBody_eq, toolInRange_body sound.fit]
  exact sound.fields_sound

theorem u16_defineToolBody_number (sound : ToolSound t) : u16 (defineToolBody t) 0 = t.number := by
  rw [defineToolBody_eq]
  exact u16_be16_append _ _ sound.fit.number

/-- The body of a sound tool with no recipe and revision 0 reads as that tool. -/
theorem toolOf_defineToolBody (sound : ToolSound t) (active : t.active = none) (staged : t.staged = none)
    (revision : t.revision = 0) : toolOf (defineToolBody t) = t := by
  rw [defineToolBody_eq, toolOf_body sound.fit, t.tool_fields active staged revision]

/-- The slot that DEFINE TOOL looks up holds the number of the tool defined. -/
theorem slotOf_defineToolBody (s : State) (sound : ToolSound t) :
    s.hunt.slotOf (u16 (defineToolBody t) 0) = s.slotOf t.number := by
  rw [u16_defineToolBody_number sound, s.hunt_slotOf]

/-- A definition of the mounted tool is refused IN_USE (R3). -/
theorem exec_defineTool_inUse (h : s.accepts guard) (sound : ToolSound t) {i : SlotIx}
    (held : s.slotOf t.number = some i) (mounted : s.cycle.mounted = some i) :
    exec (.defineTool guard (defineToolBody t)) s = .next (s.answering 0x10 .inUse []) := by
  rw [exec_defineTool _ h, defineToolCommand_inUse s.hunt _ (length_defineToolBody t) (toolInRange_defineToolBody sound)
    ((slotOf_defineToolBody s sound).trans held) mounted]
  rfl

/-- A definition of a tool the table holds keeps the slot's revision and discards its recipes (R4). -/
theorem exec_defineTool_redefine (h : s.accepts guard) (sound : ToolSound t) (active : t.active = none)
    (staged : t.staged = none) (revision : t.revision = 0) {i : SlotIx} {old : Tool} (found : s.tools[i] = some old)
    (held : s.slotOf t.number = some i) (other : s.cycle.mounted ≠ some i) :
    exec (.defineTool guard (defineToolBody t)) s
      = .next ((s.setTools (s.tools.set i (some { t with revision := old.revision }))).answering 0x10 .done
          [byte (i.val + 1), 1]) := by
  rw [exec_defineTool _ h, defineToolCommand_redefine s.hunt _ (length_defineToolBody t)
    (toolInRange_defineToolBody sound) ((slotOf_defineToolBody s sound).trans held) other,
    toolOf_defineToolBody sound active staged revision, s.hunt.writeTool_held found]
  rfl

/-- A definition of a new tool is refused TABLE_FULL where no slot is empty (R4). -/
theorem exec_defineTool_tableFull (h : s.accepts guard) (sound : ToolSound t) (absent : s.slotOf t.number = none)
    (full : s.emptySlot = none) :
    exec (.defineTool guard (defineToolBody t)) s = .next (s.answering 0x10 .tableFull []) := by
  rw [exec_defineTool _ h, defineToolCommand_tableFull s.hunt _ (length_defineToolBody t)
    (toolInRange_defineToolBody sound) ((slotOf_defineToolBody s sound).trans absent) (s.hunt_emptySlot.trans full)]
  rfl

/-- A definition of a new tool takes the lowest empty slot (R4). -/
theorem exec_defineTool_define (h : s.accepts guard) (sound : ToolSound t) (active : t.active = none)
    (staged : t.staged = none) (revision : t.revision = 0) (absent : s.slotOf t.number = none) {i : SlotIx}
    (empty : s.tools[i] = none) (lowest : s.emptySlot = some i) :
    exec (.defineTool guard (defineToolBody t)) s
      = .next ((s.setTools (s.tools.set i (some t))).answering 0x10 .done [byte (i.val + 1), 0]) := by
  rw [exec_defineTool _ h, defineToolCommand_define s.hunt _ (length_defineToolBody t)
    (toolInRange_defineToolBody sound) ((slotOf_defineToolBody s sound).trans absent) (s.hunt_emptySlot.trans lowest),
    toolOf_defineToolBody sound active staged revision, s.hunt.writeTool_empty empty t revision]
  rfl

end

/-! ## CLEAR TOOL carried out (R5) -/

section
variable {n : Nat}

/-- The slot that CLEAR TOOL looks up holds the number its body carries. -/
theorem slotOf_clearToolBody (s : State) (fits : n < 65536) : s.hunt.slotOf (u16 (be16 n) 0) = s.slotOf n := by
  rw [u16_be16 n fits, s.hunt_slotOf]

theorem exec_clearTool_unknownTool (h : s.accepts guard) (fits : n < 65536) (absent : s.slotOf n = none) :
    exec (.clearTool guard (be16 n)) s = .next (s.answering 0x11 .unknownTool []) := by
  rw [exec_clearTool _ h, clearToolCommand_unknownTool s.hunt _ rfl ((slotOf_clearToolBody s fits).trans absent)]
  rfl

theorem exec_clearTool_inUse (h : s.accepts guard) (fits : n < 65536) {i : SlotIx} (held : s.slotOf n = some i)
    (mounted : s.cycle.mounted = some i) :
    exec (.clearTool guard (be16 n)) s = .next (s.answering 0x11 .inUse []) := by
  rw [exec_clearTool _ h, clearToolCommand_inUse s.hunt _ rfl ((slotOf_clearToolBody s fits).trans held) mounted]
  rfl

theorem exec_clearTool_done (h : s.accepts guard) (fits : n < 65536) {i : SlotIx} (held : s.slotOf n = some i)
    (other : s.cycle.mounted ≠ some i) : exec (.clearTool guard (be16 n)) s
      = .next ((s.setTools (s.tools.set i none)).answering 0x11 .done []) := by
  rw [exec_clearTool _ h, clearToolCommand_done s.hunt _ rfl ((slotOf_clearToolBody s fits).trans held) other]
  rfl

end

/-- Bodies of the wrong length are refused BAD_LENGTH (10.5). -/
theorem exec_toolTable_badLength (h : s.accepts guard) (body : List Byte) :
    (body.length ≠ 13 → exec (.defineTool guard body) s = .next (s.answering 0x10 .badLength []))
    ∧ (body.length ≠ 2 → exec (.clearTool guard body) s = .next (s.answering 0x11 .badLength [])) := by
  constructor <;> intro length
  · rw [exec_defineTool _ h, defineToolCommand_badLength _ _ length]
    rfl
  · rw [exec_clearTool _ h, clearToolCommand_badLength _ _ length]
    rfl

end

/-- Each fault the statement names in a body's figures breaks a test of R3. -/
theorem not_sound_of_fault {f : ToolFields} (fault : f.number = 0 ∨ f.count = 0 ∨ 4 < f.count ∨ 4096 ≤ f.support
    ∨ ∃ k : Fin 4, 4096 ≤ f.sets[k] ∨ (k.val < f.count ∧ f.sets[k] = 0) ∨ (f.count ≤ k.val ∧ f.sets[k] ≠ 0)
      ∨ f.support &&& f.sets[k] ≠ 0) : ¬f.Sound := by
  rintro ⟨number, count, sets, support, cavities, apart⟩
  obtain zero | noCavity | many | wide | ⟨k, wide | ⟨used, empty⟩ | ⟨unused, filled⟩ | common⟩ := fault
  · exact number zero
  · omega
  · omega
  · omega
  · exact absurd (sets k) (not_lt.2 wide)
  · exact (cavities k).1 used empty
  · exact filled ((cavities k).2 unused)
  · exact common (apart k)

/-- Settles O16: each clause is one case of a command's rule, the slot looked up being the one that holds the number
(no two slots hold one number, R1) or the lowest empty one. -/
theorem toolSlotsAreWrittenAndCleared : Obligations.ToolSlotsAreWrittenAndCleared := by
  intro s guard accepted inv
  refine ⟨exec_toolTable_badLength accepted, ?_, fun t sound active staged revision => ⟨?_, ?_⟩,
    fun n fits => ⟨?_, fun absent => ?_⟩⟩
  · intro number count support sets hnumber hcount hsupport hsets fault
    exact exec_defineTool_unsound accepted (f := ⟨number, count, sets, support⟩) ⟨hnumber, hcount, hsets, hsupport⟩
      (not_sound_of_fault fault)
  · intro i old found number
    have held : s.slotOf t.number = some i := number ▸ State.slotOf_of_holds inv found
    exact ⟨exec_defineTool_redefine accepted sound active staged revision found held,
      exec_defineTool_inUse accepted sound held⟩
  · intro absent
    have none_holds : s.slotOf t.number = none := State.slotOf_of_absent absent
    exact ⟨fun i empty lowest => exec_defineTool_define accepted sound active staged revision none_holds empty
        (State.emptySlot_of_lowest empty lowest),
      fun full => exec_defineTool_tableFull accepted sound none_holds (State.emptySlot_of_full full)⟩
  · intro i t found number
    have held : s.slotOf n = some i := number ▸ State.slotOf_of_holds inv found
    exact ⟨exec_clearTool_done accepted fits held, exec_clearTool_inUse accepted fits held⟩
  · exact exec_clearTool_unknownTool accepted fits (State.slotOf_of_absent absent)

end Sys2Proof.Machine
end

section
/-! PROOF. LOAD RATES (R14, R15): a body read back as the table it carries, the tests of R14, and the statement. -/

namespace Sys2Proof.Machine

/-! ## The table a body carries -/

/-- The four bytes of one point (10.5). -/
def ratePointBytes (p : RatePoint) : List Byte := be16s p.temp ++ be16 p.rate

theorem loadRatesBody_eq (k : Fin 4) (t : RateTable) :
    loadRatesBody k t = byte k.val :: (t.toList.map ratePointBytes).flatten := rfl

theorem length_loadRatesBody (k : Fin 4) (t : RateTable) : (loadRatesBody k t).length = 65 := by
  simp [loadRatesBody_eq, ratePointBytes, List.length_flatten, Function.comp_def]

theorem u8_loadRatesBody_zero (k : Fin 4) (t : RateTable) : u8 (loadRatesBody k t) 0 = k.val := by
  rw [loadRatesBody_eq, u8_cons_zero, toNat_byte]
  omega

/-- The two-byte field at place r of point j. -/
theorem u16_loadRatesBody (k : Fin 4) (t : RateTable) (j : Fin 16) (r : Nat) (hr : r + 1 < 4) :
    u16 (loadRatesBody k t) (4 * j.val + r + 1) = u16 (ratePointBytes t[j]) r := by
  rw [loadRatesBody_eq, u16_cons_succ, u16_flatten_entries ratePointBytes 4 (fun _ => rfl) _ _ _ (by simp) hr]
  simp

theorem ratePointAt_loadRatesBody (k : Fin 4) (t : RateTable) (j : Fin 16)
    (fits : -32768 ≤ t[j].temp ∧ t[j].temp ≤ 32767 ∧ t[j].rate ≤ 65535) :
    ratePointAt (loadRatesBody k t) j.val = t[j] := by
  obtain ⟨low, high, rate⟩ := fits
  have temp : s16 (loadRatesBody k t) (1 + 4 * j.val) = t[j].temp := by
    rw [Nat.add_comm]
    simp only [s16, u16_loadRatesBody k t j 0 (by decide)]
    exact s16_be16s_append _ _ low high
  have rate : u16 (loadRatesBody k t) (3 + 4 * j.val) = t[j].rate := by
    rw [Nat.add_comm]
    exact (u16_loadRatesBody k t j 2 (by decide)).trans (u16_be16 _ (by omega))
  rw [ratePointAt, temp, rate]

/-- A table whose figures fit their fields is read back as it was. -/
theorem rateTableOf_loadRatesBody (k : Fin 4) (t : RateTable)
    (fits : ∀ j : Fin 16, -32768 ≤ t[j].temp ∧ t[j].temp ≤ 32767 ∧ t[j].rate ≤ 65535) :
    rateTableOf (loadRatesBody k t) = t := by
  ext j hj
  simpa [rateTableOf] using ratePointAt_loadRatesBody k t ⟨j, hj⟩ (fits ⟨j, hj⟩)

/-! ## The tests of R14 -/

/-- The temperatures of a table lie in range and rise strictly (R13, R14). -/
def RatesRise (t : RateTable) : Prop :=
  (∀ j : Fin 16, -500 ≤ t[j].temp ∧ t[j].temp ≤ 4000) ∧ ∀ i j : Fin 16, i < j → t[i].temp < t[j].temp

/-- Temperatures that rise from point to point rise between any two points. -/
theorem temps_rise_iff (t : RateTable) : (∀ i j : Fin 16, i < j → t[i].temp < t[j].temp)
    ↔ ∀ j : Fin 15, t[j.castSucc].temp < t[j.succ].temp :=
  Fin.strictMono_iff_lt_succ (f := fun j : Fin 16 => t[j].temp)

/-- Tests 2 and 3 of R14 pass just for an index of at most 3 and a table that rises in range. -/
theorem ratesInRange_iff (body : List Byte) :
    ratesInRange body = true ↔ u8 body 0 ≤ 3 ∧ RatesRise (rateTableOf body) := by
  rw [RatesRise, temps_rise_iff]
  simp only [ratesInRange, Bool.and_eq_true, List.all_eq_true, decide_eq_true_eq]
  simp [rateTableOf, Fin.forall_iff, Config.minTemp, Config.maxTemp, and_assoc]

/-- A table that rises lies in range if its ends do. -/
theorem ratesRise_of_ends (t : RateTable) (rises : ∀ i j : Fin 16, i < j → t[i].temp < t[j].temp)
    (low : -500 ≤ t[0].temp) (high : t[15].temp ≤ 4000) : RatesRise t := by
  have mono : StrictMono (fun j : Fin 16 => t[j].temp) := fun i j => rises i j
  exact ⟨fun j => ⟨low.trans (mono.monotone (Fin.zero_le j)), (mono.monotone (Fin.le_last j)).trans high⟩, rises⟩

theorem ratesInRange_loadRatesBody (k : Fin 4) (t : RateTable)
    (fits : ∀ j : Fin 16, -32768 ≤ t[j].temp ∧ t[j].temp ≤ 32767 ∧ t[j].rate ≤ 65535) :
    ratesInRange (loadRatesBody k t) = true ↔ RatesRise t := by
  rw [ratesInRange_iff, rateTableOf_loadRatesBody k t fits, u8_loadRatesBody_zero]
  exact and_iff_right (by omega)

/-- The table is in use while a cure that runs takes its rates from it (R15). -/
theorem State.ratesInUse_iff (s : State) (k : Fin 4) :
    s.ratesInUse k.val = true ↔ s.cycle.state = .curing ∧ ∃ r, s.activeRecipe = some r ∧ r.rateTable = k := by
  cases h : s.activeRecipe <;> simp [State.ratesInUse, h, Fin.ext_iff]

theorem State.hunt_ratesInUse (s : State) (n : Nat) : s.hunt.ratesInUse n = s.ratesInUse n := rfl

/-! ## What LOAD RATES answers -/

section
variable (s : State) (body : List Byte)

theorem loadRatesCommand_badLength (length : body.length ≠ 65) : loadRatesCommand body s = .refuse s .badLength := by
  rw [loadRatesCommand, beq_false_of_ne length, Reply.ofLength_false]

theorem loadRatesCommand_badValue (length : body.length = 65) (range : ratesInRange body = false) :
    loadRatesCommand body s = .refuse s .badValue := by
  simp [loadRatesCommand, length, range]

theorem loadRatesCommand_inUse (length : body.length = 65) (range : ratesInRange body = true)
    (used : s.ratesInUse (u8 body 0) = true) : loadRatesCommand body s = .refuse s .inUse := by
  simp [loadRatesCommand, length, range, used]

theorem loadRatesCommand_done (length : body.length = 65) (range : ratesInRange body = true)
    (free : s.ratesInUse (u8 body 0) = false) : loadRatesCommand body s
      = .done (s.setRates (s.rates.set (Fin.ofNat 4 (u8 body 0)) (rateTableOf body))) [] := by
  simp [loadRatesCommand, length, range, free]

end

section
variable (s : State) (guard : Byte)

/-- A command accepted is carried out by its own rule, over the port that hunts again (R150, R151). -/
theorem exec_loadRates (body : List Byte) (h : s.accepts guard) : exec (.loadRates guard body) s
    = .next ((loadRatesCommand body s.hunt).state.owe 0x13 (loadRatesCommand body s.hunt).status
        (loadRatesCommand body s.hunt).body) :=
  congrArg _ (s.take_accepts 0x13 guard (loadRatesCommand body) h)

/-- LOAD RATES refused BAD_VALUE changes nothing but the answer. -/
theorem exec_loadRates_badValue (body : List Byte) (h : s.accepts guard) (length : body.length = 65)
    (range : ratesInRange body = false) : exec (.loadRates guard body) s = .next (s.answering 0x13 .badValue []) := by
  rw [exec_loadRates s guard body h, loadRatesCommand_badValue _ _ length range]
  rfl

end

/-- Settles O17: each clause is one case of the command's rule, on a body read back as the table it carries. -/
theorem loadRatesReplacesTheTable : Obligations.LoadRatesReplacesTheTable := by
  intro s guard accepted
  refine ⟨fun body length => ?_, fun index points length above => ?_, fun k t fits => ⟨fun rises low high => ?_, fun bad => ?_⟩⟩
  · rw [exec_loadRates s guard body accepted, loadRatesCommand_badLength _ _ length]
    rfl
  · refine exec_loadRates_badValue s guard _ accepted (by simp [length]) ?_
    rw [Bool.eq_false_iff, ne_eq, ratesInRange_iff, u8_cons_zero]
    exact fun passes => absurd passes.1 (by omega)
  · have length := length_loadRatesBody k t
    have range := (ratesInRange_loadRatesBody k t fits).2 (ratesRise_of_ends t rises low high)
    have index := u8_loadRatesBody_zero k t
    rw [exec_loadRates s guard _ accepted, ← s.ratesInUse_iff k]
    constructor
    · intro used
      rw [loadRatesCommand_inUse _ _ length range (by rwa [index, s.hunt_ratesInUse])]
      rfl
    · intro free
      rw [loadRatesCommand_done _ _ length range (by rwa [index, s.hunt_ratesInUse, ← Bool.not_eq_true]),
        rateTableOf_loadRatesBody k t fits]
      simp only [index, Fin.ofNat_val_eq_self]
      rfl
  · refine exec_loadRates_badValue s guard _ accepted (length_loadRatesBody k t) ?_
    rw [Bool.eq_false_iff, ne_eq, ratesInRange_loadRatesBody k t fits]
    rintro ⟨inside, rises⟩
    obtain ⟨i, j, hij, falls⟩ | ⟨j, outside⟩ := bad
    · exact absurd (rises i j hij) (not_lt.2 falls)
    · have := inside j
      omega

end Sys2Proof.Machine
end

section
/-! PROOF. The supply budget (R51): what one grant can be, that all grants together stay within the budget, what a window
start leaves in a zone's heater, and the statement. -/

namespace Sys2Proof.Machine

/-! ## The division of the budget (R51) -/

section
variable {budget demand : Nat} (request : Nat)

theorem grantFor_within (within : budget = 0 ∨ demand ≤ budget * 1000) : grantFor budget demand request = request :=
  if_pos within

theorem grantFor_beyond (beyond : ¬(budget = 0 ∨ demand ≤ budget * 1000)) :
    grantFor budget demand request = request * budget * 1000 / demand :=
  if_neg beyond

theorem grantFor_le_request : grantFor budget demand request ≤ request := by
  by_cases within : budget = 0 ∨ demand ≤ budget * 1000
  · exact (grantFor_within request within).le
  · rw [grantFor_beyond request within, Nat.mul_assoc]
    exact Nat.div_le_of_le_mul (Nat.mul_comm demand request ▸ Nat.mul_le_mul_left request (by omega))

/-- A demand the budget does not cover is shared out in proportion, and the floor only takes away. -/
theorem grantFor_beyond_mul_le (beyond : ¬(budget = 0 ∨ demand ≤ budget * 1000)) (rated : Nat) :
    grantFor budget demand request * rated * demand ≤ request * rated * (budget * 1000) := by
  calc grantFor budget demand request * rated * demand
      = request * budget * 1000 / demand * demand * rated := by rw [grantFor_beyond request beyond, Nat.mul_right_comm]
    _ ≤ request * budget * 1000 * rated := Nat.mul_le_mul_right _ (Nat.div_mul_le_self _ _)
    _ = request * rated * (budget * 1000) := by ring

end

/-- The budget law of R51 for any consumers: what their grants draw together is within the budget. -/
theorem sum_grantFor_mul_le {α : Type} (l : List α) (request rated : α → Nat) {budget demand : Nat} (limited : budget ≠ 0)
    (total : (l.map (fun a => request a * rated a)).sum = demand) :
    (l.map (fun a => grantFor budget demand (request a) * rated a)).sum ≤ budget * 1000 := by
  by_cases within : budget = 0 ∨ demand ≤ budget * 1000
  · simp only [grantFor_within _ within, total]
    exact within.resolve_left limited
  · refine Nat.le_of_mul_le_mul_right (c := demand) ?_ (by omega)
    calc (l.map (fun a => grantFor budget demand (request a) * rated a)).sum * demand
        = (l.map (fun a => grantFor budget demand (request a) * rated a * demand)).sum := (List.sum_map_mul_right ..).symm
      _ ≤ (l.map (fun a => request a * rated a * (budget * 1000))).sum :=
          List.sum_le_sum (fun a _ => grantFor_beyond_mul_le (request a) within (rated a))
      _ = demand * (budget * 1000) := by rw [List.sum_map_mul_right, total]
      _ = budget * 1000 * demand := Nat.mul_comm _ _

/-! ## The request (R44, R49) -/

theorem lawRequest_le (z : Zone) (h : Heater) : lawRequest z h ≤ 1000 := by
  rw [lawRequest, clamp]
  omega

/-- The zeros of R44 apart, a request is the held duty or the control law's. -/
theorem request_le (z : Zone) (h : Heater) (held : h.heldDuty ≤ 1000) : request z h ≤ 1000 := by
  have law := lawRequest_le z h
  rw [request]
  split_ifs <;> omega

/-! ## The window start (R41) -/

section
variable (s : State)

/-- The time that passes until a window start changes no item the demand is formed from. -/
theorem State.windowMoment_demand : s.windowMoment.demand = s.demand := by
  simp [State.demand]

theorem State.startWindow_heaters (z : ZoneIx) : s.startWindow.heaters[z]
    = s.heaters[z].started s.drive.windowSetting s.drive.budget s.demand s.zones[z] := by
  simp [State.startWindow]

variable {s} {t : State} (released : s.inputs.resetPin = false) (started : exec .windowStart s = .next t)
include released started

/-- With RESET released a window start leaves in every heater record what R41 says of that zone. -/
theorem heaters_of_windowStart (z : ZoneIx) : t.heaters[z]
    = s.heaters[z].started s.drive.windowSetting s.drive.budget s.demand s.zones[z] := by
  have next : s.unlessHeld s.windowMoment.startWindow = t := Host.Outcome.next.inj started
  rw [← next, s.unlessHeld_released _ released, State.startWindow_heaters, State.windowMoment_demand]
  simp

theorem lastRequest_of_windowStart (z : ZoneIx) : t.heaters[z].lastRequest = request s.zones[z] s.heaters[z] :=
  congrArg Heater.lastRequest (heaters_of_windowStart released started z)

theorem lastGrant_of_windowStart (z : ZoneIx) :
    t.heaters[z].lastGrant = grantFor s.drive.budget s.demand t.heaters[z].lastRequest := by
  rw [heaters_of_windowStart released started z, Heater.started]

/-- The demand R51 divides by is the one of the requests the window start leaves. -/
theorem demand_of_windowStart :
    (allZones.map (fun z => t.heaters[z].lastRequest * s.zones[z].config.ratedPower)).sum = s.demand := by
  simp only [lastRequest_of_windowStart released started, State.demand]

end

/-- Settles O27: the grants of a window start divide the budget by `grantFor`, whose bounds hold for any requests. -/
theorem grantsStayWithinTheBudget : Obligations.GrantsStayWithinTheBudget := by
  intro s t released started
  have grant := lastGrant_of_windowStart released started
  have total := demand_of_windowStart released started
  refine ⟨fun z => ?formula, fun sound z => ?request, fun limited => ?budget, fun z => ?below⟩
  case formula => rw [total, grant z, grantFor]
  case request =>
    obtain ⟨_, _, held⟩ := (sound z).duty
    exact lastRequest_of_windowStart released started z ▸ request_le _ _ held
  case budget =>
    simp only [grant]
    exact sum_grantFor_mul_le allZones _ _ limited total
  case below => exact grant z ▸ grantFor_le_request _

end Sys2Proof.Machine
end

section
/-! PROOF. What the charge queue's invariants speak of (R67, R80, R91): a view of the state that gathers it, when the
view is sound, and which changes of it stay sound. -/

namespace Sys2Proof.Machine

/-- The items that QueueInv and ChargeInv speak of: the queue, the charge numbers of each record, what is mounted with its
cavity count, and the cavities armed and captured for. -/
structure Charges where
  queue : List ChargeEntry
  recorded : List (List Nat)
  mounted : Option SlotIx
  cavities : Nat
  arming : Option Arming
  snapshot : Option Snapshot

/-- The charge numbers of each record. -/
def Ring.charges (r : Ring) : List (List Nat) := r.records.map (fun p => p.cavities.map (·.charge))

/-- The view of a state. -/
def State.charges (s : State) : Charges where
  queue := s.queue
  recorded := s.ring.charges
  mounted := s.cycle.mounted
  cavities := s.cavityCount
  arming := s.scale.arming
  snapshot := s.scale.snapshot

/-- Every charge number held. -/
def Charges.held (c : Charges) : List Nat := c.queue.map (·.number) ++ c.recorded.flatten

/-- QueueInv and ChargeInv, said of the view. -/
structure Charges.Sound (c : Charges) : Prop where
  places : c.queue.length ≤ 12
  cavity : ∀ e ∈ c.queue, 1 ≤ e.cavity ∧ e.cavity ≤ c.cavities
  noTool : c.mounted = none → c.queue = []
  arming : ∀ a, c.arming = some a → 1 ≤ a.cavity ∧ a.cavity ≤ c.cavities
  snapshot : ∀ p, c.snapshot = some p → 1 ≤ p.cavity ∧ p.cavity ≤ c.cavities
  distinct : c.held.Nodup

theorem State.charges_sound_iff (s : State) : s.charges.Sound ↔ QueueInv s ∧ ChargeInv s :=
  ⟨fun ⟨places, cavity, noTool, arming, snapshot, distinct⟩ => ⟨⟨places, cavity, noTool, arming, snapshot⟩, distinct⟩,
    fun ⟨⟨places, cavity, noTool, arming, snapshot⟩, distinct⟩ => ⟨places, cavity, noTool, arming, snapshot, distinct⟩⟩

namespace Charges

variable {c : Charges}

/-! ## Changes that stay sound -/

/-- Entries may leave the queue (R84, R86). -/
theorem Sound.leave (h : c.Sound) {q : List ChargeEntry} (sub : q.Sublist c.queue) : { c with queue := q }.Sound where
  places := sub.length_le.trans h.places
  cavity e m := h.cavity e (sub.subset m)
  noTool m := List.sublist_nil.1 (h.noTool m ▸ sub)
  arming := h.arming
  snapshot := h.snapshot
  distinct := h.distinct.sublist ((sub.map _).append_right _)

/-- Records may leave the ring (R146). -/
theorem Sound.release (h : c.Sound) {rs : List (List Nat)} (sub : rs.Sublist c.recorded) :
    { c with recorded := rs }.Sound :=
  { h with distinct := h.distinct.sublist (sub.flatten.append_left _) }

/-- Charges may leave the queue for a new record (R90). -/
theorem Sound.record (h : c.Sound) {taken rest : List ChargeEntry} (split : c.queue.Perm (taken ++ rest)) :
    { c with queue := rest, recorded := c.recorded ++ [taken.map ChargeEntry.number] }.Sound where
  places := by
    have := split.length_eq ▸ h.places
    simp only [List.length_append] at this
    show rest.length ≤ 12
    omega
  cavity e m := h.cavity e (split.mem_iff.2 (List.mem_append_right _ m))
  noTool m := by
    have := h.noTool m ▸ split
    exact (List.append_eq_nil_iff.1 this.nil_eq.symm).2
  arming := h.arming
  snapshot := h.snapshot
  distinct := by
    have numbers : (c.queue.map (·.number)).Perm (taken.map (·.number) ++ rest.map (·.number)) := by
      simpa using split.map (·.number)
    refine (List.Perm.nodup_iff ?_).1 h.distinct
    calc
      c.held.Perm ((taken.map (·.number) ++ rest.map (·.number)) ++ c.recorded.flatten) := numbers.append_right _
      List.Perm _ ((rest.map (·.number) ++ c.recorded.flatten) ++ taken.map (·.number)) := by
        rw [List.append_assoc]
        exact List.perm_append_comm
      _ = _ := by simp [held]

/-- A charge may join the queue with a place free, for a cavity of the mounted tool, under a number not held (R81). -/
theorem Sound.join (h : c.Sound) {e : ChargeEntry} (room : c.queue.length < 12) (mounted : c.mounted ≠ none)
    (cavity : 1 ≤ e.cavity ∧ e.cavity ≤ c.cavities) (fresh : e.number ∉ c.held) :
    { c with queue := c.queue ++ [e] }.Sound where
  places := by simpa using room
  cavity d m := by
    obtain m | m := List.mem_append.1 m
    · exact h.cavity d m
    · exact List.mem_singleton.1 m ▸ cavity
  noTool m := absurd m mounted
  arming := h.arming
  snapshot := h.snapshot
  distinct := by
    have numbers : (e.number :: c.held).Perm { c with queue := c.queue ++ [e] }.held := by
      simpa [held] using List.perm_middle.symm
    exact numbers.nodup_iff.1 (List.nodup_cons.2 ⟨fresh, h.distinct⟩)

/-- A cavity of the mounted tool may be armed (R66). -/
theorem Sound.arm (h : c.Sound) {a : Arming} (cavity : 1 ≤ a.cavity ∧ a.cavity ≤ c.cavities) :
    { c with arming := some a }.Sound :=
  { h with arming := fun _ e => Option.some.inj e ▸ cavity }

/-- A capture may begin for the cavity armed (R68). -/
theorem Sound.capture (h : c.Sound) {a : Arming} {p : Snapshot} (armed : c.arming = some a) (same : p.cavity = a.cavity) :
    { c with snapshot := some p }.Sound :=
  { h with snapshot := fun _ e => Option.some.inj e ▸ same ▸ h.arming a armed }

/-- A capture may end (R71, R72). -/
theorem Sound.endCapture (h : c.Sound) : { c with snapshot := none }.Sound := { h with snapshot := nofun }

/-- The mounted slot may come to hold more cavities. -/
theorem Sound.grow (h : c.Sound) {n : Nat} (more : c.cavities ≤ n) : { c with cavities := n }.Sound :=
  { h with
    cavity := fun e m => (h.cavity e m).imp_right (·.trans more)
    arming := fun a m => (h.arming a m).imp_right (·.trans more)
    snapshot := fun p m => (h.snapshot p m).imp_right (·.trans more) }

/-- With nothing queued, armed or captured for, any tool or none may be mounted (R17, R18). -/
theorem Sound.remount (h : c.Sound) (m : Option SlotIx) (n : Nat) :
    { c with queue := [], mounted := m, cavities := n, arming := none, snapshot := none }.Sound where
  places := Nat.zero_le _
  cavity := nofun
  noTool _ := rfl
  arming := nofun
  snapshot := nofun
  distinct := h.distinct.sublist (List.sublist_append_right _ _)

end Charges

/-! ## The cavity count of the mounted tool -/

variable (s : State)

/-- A write to a slot leaves the mounted tool's cavity count, if the slot is not mounted or keeps the count it has. -/
theorem State.setTool_cavityCount (i : SlotIx) (v : Option Tool)
    (same : s.cycle.mounted = some i → v.map (·.cavityCount) = s.tools[i].map (·.cavityCount)) :
    (s.setTools (s.tools.set i v)).cavityCount = s.cavityCount := by
  simp only [State.cavityCount, State.mountedTool, State.setTools_cycle, State.setTools_tools]
  cases mounted : s.cycle.mounted with
  | none => rfl
  | some j =>
    by_cases hij : i = j
    · subst hij
      specialize same mounted
      cases v <;> cases h : s.tools[i] <;> simp_all
    · simp [Fin.val_ne_of_ne hij]

/-- A tool is mounted that has a cavity. -/
theorem State.mounted_of_cavityCount (cavities : 1 ≤ s.cavityCount) : s.cycle.mounted ≠ none := by
  intro h
  simp [State.cavityCount, State.mountedTool, h] at cavities

end Sys2Proof.Machine
end

section
/-! PROOF. What each operation does to the items that the charge queue's invariants speak of: one lemma for each, most of
them that it leaves them alone. -/

namespace Sys2Proof.Machine

variable (s : State)

/-! ## Writes of one block -/

section
variable {s} {t : State}

/-- The view reads the queue, the ring, the tools, the mounted slot, the arming record and the snapshot, and no more. -/
theorem State.charges_congr (queue : t.queue = s.queue) (ring : t.ring.charges = s.ring.charges) (tools : t.tools = s.tools)
    (mounted : t.cycle.mounted = s.cycle.mounted) (arming : t.scale.arming = s.scale.arming)
    (snapshot : t.scale.snapshot = s.scale.snapshot) : t.charges = s.charges := by
  simp only [State.charges, State.cavityCount, State.mountedTool, queue, ring, tools, mounted, arming, snapshot]

end

@[simp] theorem State.setRates_charges (v : Vector RateTable 4) : (s.setRates v).charges = s.charges := rfl
@[simp] theorem State.setZones_charges (v : Vector Zone 12) : (s.setZones v).charges = s.charges := rfl
@[simp] theorem State.setDrive_charges (v : Drive) : (s.setDrive v).charges = s.charges := rfl
@[simp] theorem State.setHeaters_charges (v : Vector Heater 12) : (s.setHeaters v).charges = s.charges := rfl
@[simp] theorem State.setCure_charges (v : Cure) : (s.setCure v).charges = s.charges := rfl
@[simp] theorem State.setEjector_charges (v : Ejector) : (s.setEjector v).charges = s.charges := rfl
@[simp] theorem State.setPort_charges (v : Port) : (s.setPort v).charges = s.charges := rfl
@[simp] theorem State.setNotices_charges (v : NoticeQueue) : (s.setNotices v).charges = s.charges := rfl
@[simp] theorem State.setClocks_charges (v : Clocks) : (s.setClocks v).charges = s.charges := rfl
@[simp] theorem State.setInputs_charges (v : Inputs) : (s.setInputs v).charges = s.charges := rfl
@[simp] theorem State.setTimers_charges (v : Timers) : (s.setTimers v).charges = s.charges := rfl
@[simp] theorem State.setDraws_charges (v : Nat) : (s.setDraws v).charges = s.charges := rfl
@[simp] theorem State.setPending_charges (v : List Instr) : (s.setPending v).charges = s.charges := rfl

@[simp] theorem State.setQueue_charges (v : List ChargeEntry) :
    (s.setQueue v).charges = { s.charges with queue := v } := rfl

@[simp] theorem State.setRing_charges (v : Ring) : (s.setRing v).charges = { s.charges with recorded := v.charges } := rfl

@[simp] theorem State.setScale_charges (v : Scale) :
    (s.setScale v).charges = { s.charges with arming := v.arming, snapshot := v.snapshot } := rfl

/-- A write to the cycle controller that leaves the tool mounted. -/
theorem State.setCycle_charges {v : Cycle} (mounted : v.mounted = s.cycle.mounted) : (s.setCycle v).charges = s.charges :=
  State.charges_congr rfl rfl rfl mounted rfl rfl

/-- A write to a slot that leaves the mounted tool's cavity count. -/
theorem State.setTool_charges (i : SlotIx) (v : Option Tool)
    (same : s.cycle.mounted = some i → v.map (·.cavityCount) = s.tools[i].map (·.cavityCount)) :
    (s.setTools (s.tools.set i v)).charges = s.charges := by
  simp only [State.charges, s.setTool_cavityCount i v same]
  rfl

/-! ## Notices, time and the port -/

@[simp] theorem State.post_charges (k : NoticeKind) (u : Subject) (v : Option Int) :
    (s.post k u v).charges = s.charges := rfl
@[simp] theorem State.restartNotices_charges : s.restartNotices.charges = s.charges := rfl
@[simp] theorem State.elapse_charges (ms : Nat) : (s.elapse ms).charges = s.charges := rfl
@[simp] theorem State.zoneMoment_charges (z : ZoneIx) : (s.zoneMoment z).charges = s.charges := rfl
@[simp] theorem State.bridgeMoment_charges : s.bridgeMoment.charges = s.charges := rfl
@[simp] theorem State.secondMoment_charges : s.secondMoment.charges = s.charges := rfl
@[simp] theorem State.windowMoment_charges : s.windowMoment.charges = s.charges := rfl
@[simp] theorem State.onTimeMoment_charges (z : ZoneIx) : (s.onTimeMoment z).charges = s.charges := rfl
@[simp] theorem State.cureMoment_charges : s.cureMoment.charges = s.charges := rfl
@[simp] theorem State.closeMoment_charges : s.closeMoment.charges = s.charges := rfl
@[simp] theorem State.openMoment_charges : s.openMoment.charges = s.charges := rfl
@[simp] theorem State.strokeMoment_charges : s.strokeMoment.charges = s.charges := rfl
@[simp] theorem State.captureMoment_charges : s.captureMoment.charges = s.charges := rfl
@[simp] theorem State.gapMoment_charges : s.gapMoment.charges = s.charges := rfl
@[simp] theorem State.hunt_charges : s.hunt.charges = s.charges := rfl
@[simp] theorem State.owe_charges (k : Byte) (v : Status) (b : List Byte) : (s.owe k v b).charges = s.charges := rfl

/-! ## The open record -/

/-- A write to the open record that leaves the charge numbers of its cavity entries (R138). -/
theorem State.updateOpen_charges {f : PartRecord → PartRecord}
    (same : ∀ r, (f r).cavities.map (·.charge) = r.cavities.map (·.charge)) : (s.updateOpen f).charges = s.charges := by
  refine State.charges_congr rfl ?_ rfl rfl rfl rfl
  simp only [Ring.charges, State.updateOpen_records, List.map_map]
  refine List.map_congr_left fun r _ => ?_
  cases h : r.opened <;> simp [h, same]

@[simp] theorem State.addFault_charges (c : FaultCode) : (s.addFault c).charges = s.charges :=
  s.updateOpen_charges fun _ => rfl

@[simp] theorem State.setOutcome_charges (o : PartOutcome) : (s.setOutcome o).charges = s.charges :=
  s.updateOpen_charges fun _ => rfl

@[simp] theorem State.markAborted_charges (c : FaultCode) : (s.markAborted c).charges = s.charges := by
  simp [State.markAborted]

@[simp] theorem State.addFaultIf_charges (b : Bool) (c : FaultCode) : (s.addFaultIf b c).charges = s.charges := by
  cases b
  · rfl
  · exact s.addFault_charges c

/-- The doses written at the end of a cure leave the charge numbers (R122). -/
theorem map_charge_writeDoses (cs : List RecordCavity) (ds : List CavityCure) :
    (writeDoses cs ds).map (·.charge) = cs.map (·.charge) := by
  induction cs generalizing ds with
  | nil => cases ds <;> rfl
  | cons c cs ih =>
    cases ds with
    | nil => rfl
    | cons d ds => simp [writeDoses, ih]

@[simp] theorem State.endCure_charges : s.endCure.charges = s.charges :=
  State.updateOpen_charges (s.setCure _) fun r => map_charge_writeDoses r.cavities s.cure.cavities

@[simp] theorem State.closeRecord_charges : s.closeRecord.charges = s.charges := by
  refine State.charges_congr (by simp) ?_ (by simp) ?_ (by simp) (by simp)
  · simp only [Ring.charges, State.closeRecord_ring, List.map_map]
    refine List.map_congr_left fun r _ => ?_
    cases h : r.opened <;> simp [h]
  · obtain ⟨_, same⟩ | ⟨_, _, _, cycle, _⟩ := s.closeRecord_cases
    · rw [same]
    · rw [cycle]

/-! ## The cycle controller -/

@[simp] theorem State.evaluate_charges : s.evaluate.charges = s.charges := by
  refine s.setCycle_charges ?_
  split <;> rfl

@[simp] theorem State.drivePermits_charges : s.drivePermits.charges = s.charges := rfl
@[simp] theorem State.enter_charges (st : CycleState) : (s.enter st).charges = s.charges := rfl

/-! ## Zones and heaters -/

@[simp] theorem State.applyZones_charges (f : ZoneIx → ZoneStep → ZoneStep) : (s.applyZones f).charges = s.charges := by
  simp [State.charges, State.cavityCount, State.mountedTool]

@[simp] theorem State.applyZone_charges (z : ZoneIx) (f : ZoneStep → ZoneStep) : (s.applyZone z f).charges = s.charges := by
  obtain ⟨e, _⟩ | ⟨e, _⟩ := s.applyZone_cases z f <;> rw [e]
  · simp [State.charges, State.cavityCount, State.mountedTool]
  · rw [State.evaluate_charges]
    simp [State.charges, State.cavityCount, State.mountedTool]

@[simp] theorem State.followZones_charges : s.followZones.charges = s.charges := s.applyZones_charges _
@[simp] theorem State.setWorkings_charges : s.setWorkings.charges = s.charges := s.applyZones_charges _
@[simp] theorem State.configureZone_charges (z : ZoneIx) (c : ZoneConfig) : (s.configureZone z c).charges = s.charges := by
  rw [State.configureZone, State.applyZone_charges]
@[simp] theorem State.sampleZone_charges (z : ZoneIx) (r : Reading) : (s.sampleZone z r).charges = s.charges := by
  rw [State.sampleZone, State.applyZone_charges, State.zoneMoment_charges]
@[simp] theorem State.startWindow_charges : s.startWindow.charges = s.charges := rfl
@[simp] theorem State.outputOff_charges (z : ZoneIx) : (s.outputOff z).charges = s.charges := rfl

@[simp] theorem State.setMaster_charges (on : Bool) : (s.setMaster on).charges = s.charges := by
  unfold State.setMaster
  split <;> simp

/-! ## Promotion (R10 to R12) -/

@[simp] theorem State.promote_charges (i : SlotIx) : (s.promote i).charges = s.charges := by
  obtain e | ⟨t, r, held, _, e⟩ := s.promote_cases i <;> rw [e]
  rw [State.post_charges]
  exact s.setTool_charges i _ fun _ => by rw [held]; rfl

@[simp] theorem State.promoteMounted_charges : s.promoteMounted.charges = s.charges := by
  unfold State.promoteMounted
  split
  · rfl
  · split <;> simp

@[simp] theorem State.stage_charges (i : SlotIx) (r : Recipe) : (s.stage i r).charges = s.charges :=
  s.setTool_charges i _ fun _ => by rw [Option.map_map]; rfl

@[simp] theorem State.dispose_charges (i : SlotIx) : (s.dispose i).charges = s.charges := by
  unfold State.dispose
  split
  · rfl
  · split <;> simp

/-! ## The press cycle -/

@[simp] theorem State.idleCure_charges : s.idleCure.charges = s.charges := rfl
@[simp] theorem State.endPending_charges : s.endPending.charges = s.charges := rfl
@[simp] theorem State.beginStroke_charges : s.beginStroke.charges = s.charges := rfl

@[simp] theorem State.closeCycle_charges : s.closeCycle.charges = s.charges := by simp [State.closeCycle]

@[simp] theorem State.enterTakeout_charges : s.enterTakeout.charges = s.charges := by
  obtain ⟨_, e⟩ | ⟨_, e⟩ := s.enterTakeout_cases <;> simp [e]

@[simp] theorem State.endSequence_charges : s.endSequence.charges = s.charges := by
  rw [State.endSequence, State.enterTakeout_charges]
  exact s.updateOpen_charges fun _ => rfl

@[simp] theorem State.abandonSequence_charges : s.abandonSequence.charges = s.charges := by simp [State.abandonSequence]

@[simp] theorem State.judgeBack_charges : s.judgeBack.charges = s.charges := by
  obtain ⟨_, e⟩ | ⟨_, ⟨_, e⟩ | ⟨_, _, e⟩ | ⟨_, _, _, e⟩ | ⟨_, _, _, e⟩⟩ := s.judgeBack_cases <;> simp [e]

@[simp] theorem State.retract_charges (stalled : Bool) : (s.retract stalled).charges = s.charges := by simp [State.retract]

@[simp] theorem State.enterEjecting_charges : s.enterEjecting.charges = s.charges := rfl

@[simp] theorem State.leaveRelease_charges : s.leaveRelease.charges = s.charges := by
  obtain ⟨_, _, _, e⟩ | ⟨_, e⟩ := s.leaveRelease_cases <;> simp [e]

@[simp] theorem State.enterRelease_charges : s.enterRelease.charges = s.charges := by
  rw [State.enterRelease, State.leaveRelease_charges, State.enter_charges]
  exact (State.setCycle_charges _ rfl).trans (s.updateOpen_charges fun _ => rfl)

@[simp] theorem State.stopCure_charges : s.stopCure.charges = s.charges := by simp [State.stopCure]
@[simp] theorem State.leaveLoading_charges : s.leaveLoading.charges = s.charges := by simp [State.leaveLoading]

@[simp] theorem State.abandon_charges : s.abandon.charges = s.charges := by
  unfold State.abandon
  split <;> simp

@[simp] theorem State.abortCycle_charges : s.abortCycle.charges = s.charges := by
  unfold State.abortCycle
  split <;> simp

@[simp] theorem State.stopEjector_charges : s.stopEjector.charges = s.charges := by
  unfold State.stopEjector
  dsimp only
  split <;> simp

@[simp] theorem State.stopCycle_charges : s.stopCycle.charges = s.charges := by
  unfold State.stopCycle
  split <;> simp

@[simp] theorem State.resumeCycle_charges : s.resumeCycle.charges = s.charges := by
  unfold State.resumeCycle
  split <;> simp

@[simp] theorem State.beginCure_charges : s.beginCure.charges = s.charges := by
  rw [State.beginCure, State.enter_charges]
  exact s.updateOpen_charges fun _ => rfl

@[simp] theorem State.timeOutClose_charges : s.timeOutClose.charges = s.charges := by simp [State.timeOutClose]
@[simp] theorem State.postOverdue_charges : s.postOverdue.charges = s.charges := rfl

/-! ## The ejector -/

@[simp] theorem State.unjam_charges : s.unjam.charges = s.charges := by
  unfold State.unjam
  split <;> simp

@[simp] theorem State.retry_charges : s.retry.charges = s.charges := rfl

@[simp] theorem State.forwardReached_charges : s.forwardReached.charges = s.charges := by
  unfold State.forwardReached
  split <;> simp

@[simp] theorem State.backReached_charges : s.backReached.charges = s.charges := by
  unfold State.backReached
  split
  · split <;> simp
  · rfl

@[simp] theorem State.stall_charges : s.stall.charges = s.charges := by simp [State.stall]
@[simp] theorem State.jam_charges : s.jam.charges = s.charges := by simp [State.jam]

/-! ## The cure second (R114) -/

@[simp] theorem State.accumulate_charges (t : Tool) (r : Recipe) : (s.accumulate t r).charges = s.charges :=
  State.updateOpen_charges (s.setCure _) fun _ => rfl

@[simp] theorem State.judgeZones_charges (t : Tool) : (s.judgeZones t).charges = s.charges := by simp [State.judgeZones]

@[simp] theorem State.decideRelease_charges (r : Recipe) : (s.decideRelease r).charges = s.charges := by
  unfold State.decideRelease
  split
  · simp
  · split <;> simp

@[simp] theorem State.cureWork_charges (t : Tool) (r : Recipe) : (s.cureWork t r).charges = s.charges := by
  simp [State.cureWork]

/-! ## The queue and the ring -/

@[simp] theorem State.changeQueue_charges (q : List ChargeEntry) :
    (s.changeQueue q).charges = { s.charges with queue := q } := by
  obtain ⟨e, _⟩ | e := s.changeQueue_cases q <;> simp [e]

@[simp] theorem State.changeRing_charges (r : Ring) :
    (s.changeRing r).charges = { s.charges with recorded := r.charges } := by
  obtain ⟨e, _, _⟩ | e := s.changeRing_cases r <;> simp [e]

/-- START moves the charges taken from the queue into a new record (R90, R98). -/
theorem State.startCycle_charges (i : SlotIx) (t : Tool) (r : Recipe) (n : Nat) (taken rest : List ChargeEntry) :
    (s.startCycle i t r n taken rest).charges
      = { s.charges with queue := rest, recorded := s.charges.recorded ++ [taken.map ChargeEntry.number] } := by
  rw [State.startCycle, State.enter_charges, State.setTimers_charges, State.setCure_charges, State.setRing_charges,
    State.setQueue_charges]
  simp [State.charges, Ring.charges, State.newRecord, ChargeEntry.recorded, Function.comp_def]

/-! ## The scale -/

@[simp] theorem State.beginCapture_charges (p : Snapshot) :
    (s.beginCapture p).charges = { s.charges with snapshot := some p } := rfl

@[simp] theorem State.notAdmit_charges (k : NoticeKind) (p : Snapshot) :
    (s.notAdmit k p).charges = { s.charges with snapshot := none } := rfl

@[simp] theorem State.failCapture_charges (p : Snapshot) :
    (s.failCapture p).charges = { s.charges with snapshot := none } := rfl

@[simp] theorem State.admitCharge_charges (p : Snapshot) : (s.admitCharge p).charges
    = { s.charges with snapshot := none, queue := s.queue ++ [s.admittedEntry p] } := by
  rw [State.admitCharge, State.post_charges, State.changeQueue_charges]
  rfl

@[simp] theorem State.beginMeasurement_charges (k : MeasureKind) : (s.beginMeasurement k).charges = s.charges := rfl

@[simp] theorem State.endMeasurement_charges (zero span : Int) (k : NoticeKind) (v : Int) :
    (s.endMeasurement zero span k v).charges = s.charges := rfl

@[simp] theorem State.finishMeasurement_charges (m : Measurement) : (s.finishMeasurement m).charges = s.charges := by
  unfold State.finishMeasurement
  split
  · rfl
  · dsimp only
    split_ifs <;> rfl

@[simp] theorem State.measure_charges (c : Int) (m : Measurement) : (s.measure c m).charges = s.charges := by
  unfold State.measure
  dsimp only
  split_ifs
  · rfl
  · simp
  · rfl

end Sys2Proof.Machine
end

section
/-! PROOF. The number an admitted charge is given (R73): the search passes every number held. -/

namespace Sys2Proof.Machine

/-- The numbers tried run through 1 to 65535 in turn, and start again at 1. -/
theorem succCharge_iterate {n : Nat} (low : 1 ≤ n) (high : n ≤ 65535) (k : Nat) :
    succCharge^[k] n = (n - 1 + k) % 65535 + 1 := by
  induction k with
  | zero =>
    rw [Function.iterate_zero_apply]
    omega
  | succ k ih =>
    rw [Function.iterate_succ_apply', ih, succCharge, Config.max16]
    split <;> omega

/-- As many numbers as there are, tried one after another, differ. -/
theorem nodup_succCharge_iterates {n : Nat} (low : 1 ≤ n) (high : n ≤ 65535) {k : Nat} (few : k ≤ 65535) :
    ((List.range k).map (fun j => succCharge^[j] n)).Nodup := by
  refine List.Nodup.map_on (fun a ha b hb same => ?_) List.nodup_range
  rw [List.mem_range] at ha hb
  simp only [succCharge_iterate low high] at same
  omega

/-- A search that ends at a held number has tried held numbers alone. -/
theorem mem_held_of_freeFrom_mem {held : List Nat} {fuel n : Nat} (found : freeFrom held fuel n ∈ held) :
    ∀ k ≤ fuel, succCharge^[k] n ∈ held := by
  induction fuel generalizing n with
  | zero =>
    intro k hk
    rw [Nat.le_zero.1 hk]
    exact found
  | succ fuel ih =>
    by_cases first : n ∈ held
    · rw [freeFrom, if_pos first] at found
      intro k hk
      cases k with
      | zero => exact first
      | succ k => exact ih found k (Nat.le_of_succ_le_succ hk)
    · rw [freeFrom, if_neg first] at found
      exact absurd found first

/-- With fewer numbers held than there are, the search finds a free one: one more is tried than are held, all different
(R73). -/
theorem freeFrom_notMem {held : List Nat} {n : Nat} (low : 1 ≤ n) (high : n ≤ 65535) (few : held.length < 65535) :
    freeFrom held held.length n ∉ held := by
  intro found
  have tried : (List.range (held.length + 1)).map (fun j => succCharge^[j] n) ⊆ held := by
    intro m hm
    obtain ⟨k, hk, rfl⟩ := List.mem_map.1 hm
    exact mem_held_of_freeFrom_mem found k (Nat.lt_succ_iff.1 (List.mem_range.1 hk))
  have count := ((nodup_succCharge_iterates low high few).subperm tried).length_le
  simp at count

end Sys2Proof.Machine
end

section
/-! PROOF. The operations that change what the charge queue's invariants speak of keep it sound: the outcome of a capture,
START's take, mounting and unmounting, the tool table, RESTART and power-on. -/

namespace Sys2Proof.Machine

/-- What the soundness of the scale and of the ring give the charge queue: a snapshot only while a capture waits, the next
charge number in its range, and few numbers held by records. -/
structure NumbersFit (scale : Scale) (ring : Ring) : Prop where
  waiting : scale.snapshot.isSome = true → scale.capture = .waiting
  next : 1 ≤ scale.nextCharge ∧ scale.nextCharge ≤ 65535
  places : ring.records.length ≤ 48
  cavities : ∀ r ∈ ring.records, r.cavities.length ≤ 4

section
variable {s : State}

theorem numbersFit_of_inv (scale : ScaleInv s) (ring : RingInv s) : NumbersFit s.scale s.ring :=
  ⟨scale.waiting.2, scale.charge, ring.places, ring.cavities⟩

/-! ## The number given is free (R73) -/

theorem NumbersFit.length_recorded_le {scale : Scale} {ring : Ring} (fit : NumbersFit scale ring) :
    ring.charges.flatten.length ≤ 192 := by
  have four : ∀ n ∈ ring.charges.map List.length, n ≤ 4 := by
    simpa [Ring.charges] using fit.cavities
  calc ring.charges.flatten.length
      = (ring.charges.map List.length).sum := List.length_flatten
    _ ≤ (ring.charges.map List.length).length • 4 := List.sum_le_card_nsmul _ _ four
    _ = 4 * ring.records.length := by simp [Ring.charges, Nat.mul_comm]
    _ ≤ 192 := by have := fit.places; omega

/-- The number given to an admitted charge is held by no entry and no record. -/
theorem State.chargeToGive_notMem (fit : NumbersFit s.scale s.ring) (places : s.queue.length ≤ 12) :
    s.chargeToGive ∉ s.charges.held := by
  refine freeFrom_notMem fit.next.1 fit.next.2 ?_
  have recorded := fit.length_recorded_le
  calc s.heldCharges.length
      = s.queue.length + s.ring.charges.flatten.length := by
        simp [State.heldCharges, Ring.charges]
    _ < 65535 := by omega

/-! ## Captures (R68, R69, R72) -/

theorem State.captureOutcome_chargesSound (fit : NumbersFit s.scale s.ring) (sound : s.charges.Sound) {p : Snapshot}
    (taken : s.scale.snapshot = some p) : (s.captureOutcome p).charges.Sound := by
  unfold State.captureOutcome
  split
  · exact sound.endCapture
  · split
    · exact sound.endCapture
    next room =>
      have cavity := sound.snapshot p taken
      rw [State.admitCharge_charges]
      exact sound.endCapture.join (Nat.not_le.1 room) (s.mounted_of_cavityCount (cavity.1.trans cavity.2)) cavity
        (State.chargeToGive_notMem fit sound.places)

theorem State.actOnCapture_chargesSound (fit : NumbersFit s.scale s.ring) (sound : s.charges.Sound)
    (before : LoadState) (c : Int) : (s.actOnCapture before c).charges.Sound := by
  unfold State.actOnCapture
  split
  · exact sound
  · split
    · exact sound
    next p taken =>
      split
      · exact State.captureOutcome_chargesSound fit sound taken
      · exact sound
  · split <;> exact sound
  · split
    · exact sound
    · rwa [State.measure_charges]

/-- A bridge sample's own work leaves the arming record, the capture and the next charge number (R60 to R63). -/
theorem Scale.weigh_frame (k : Scale) (c : Int) : (k.weigh c).arming = k.arming ∧ (k.weigh c).snapshot = k.snapshot
    ∧ (k.weigh c).capture = k.capture ∧ (k.weigh c).nextCharge = k.nextCharge := by
  unfold Scale.weigh Scale.stabilise
  dsimp only
  split_ifs <;> exact ⟨rfl, rfl, rfl, rfl⟩

theorem State.sampleBridge_chargesSound (fit : NumbersFit s.scale s.ring) (sound : s.charges.Sound) (count : BitVec 24) :
    (s.sampleBridge count).charges.Sound := by
  obtain ⟨arming, snapshot, capture, next⟩ := s.scale.weigh_frame count.toInt
  rw [State.sampleBridge]
  refine State.actOnCapture_chargesSound (s := s.bridgeMoment.setScale _) ⟨?_, ?_, fit.places, fit.cavities⟩ ?_ _ _
  · simpa [snapshot, capture] using fit.waiting
  · simpa [next] using fit.next
  · simp only [State.setScale_charges, State.bridgeMoment_charges, State.bridgeMoment_frame, arming, snapshot]
    exact sound

/-- The snapshot a request begins a capture with is of the cavity armed (R68). -/
theorem State.armedSnapshot_cavity {p : Snapshot} (armed : s.armedSnapshot = some p) :
    ∃ a, s.scale.arming = some a ∧ p.cavity = a.cavity := by
  unfold State.armedSnapshot at armed
  split at armed
  · cases armed
  next a arming =>
    refine ⟨a, arming, ?_⟩
    unfold State.snapshotFor at armed
    split at armed
    · cases armed
    · obtain ⟨_, _, rfl⟩ := Option.map_eq_some_iff.1 armed
      rfl

theorem State.beginCapture_chargesSound (sound : s.charges.Sound) {p : Snapshot} (armed : s.armedSnapshot = some p) :
    (s.beginCapture p).charges.Sound := by
  obtain ⟨a, arming, same⟩ := State.armedSnapshot_cavity armed
  exact sound.capture arming same

theorem State.keyRequest_chargesSound (sound : s.charges.Sound) : s.keyRequest.charges.Sound := by
  unfold State.keyRequest
  split
  · exact sound
  · split
    · exact sound
    · exact State.beginCapture_chargesSound sound ‹_›

/-! ## Expiry (R84) -/

theorem State.expire_chargesSound (sound : s.charges.Sound) : s.expire.charges.Sound := by
  have posts : ∀ (l : List ChargeEntry) (u : State),
      (l.foldl (fun t e => t.post .chargeExpired (.charge e.number) (some (e.cavity : Int))) u).charges = u.charges := by
    intro l
    induction l with
    | nil => exact fun _ => rfl
    | cons e l ih => exact fun u => ih _
  rw [State.expire, State.changeQueue_charges, posts]
  exact sound.leave List.filter_sublist

theorem State.advanceSecond_chargesSound (sound : s.charges.Sound) : s.advanceSecond.charges.Sound := by
  unfold State.advanceSecond
  dsimp only
  split
  · exact sound
  · exact State.expire_chargesSound sound

/-! ## START (R90) -/

/-- The oldest entry of a cavity and the queue without it are the queue. -/
theorem takeOldest_perm {cavity : Nat} {q rest : List ChargeEntry} {e : ChargeEntry}
    (taken : takeOldest cavity q = some (e, rest)) : q.Perm (e :: rest) := by
  induction q generalizing rest with
  | nil => cases taken
  | cons d q ih =>
    unfold takeOldest at taken
    split at taken
    · cases taken
      exact .refl _
    · obtain ⟨⟨f, others⟩, found, same⟩ := Option.map_eq_some_iff.1 taken
      cases same
      exact ((ih found).cons d).trans (.swap _ _ _)

/-- The entries START takes and those it leaves are the queue. -/
theorem takeSet_perm {cs : List Nat} {q charges rest : List ChargeEntry} (taken : takeSet cs q = some (charges, rest)) :
    q.Perm (charges ++ rest) := by
  induction cs generalizing q charges with
  | nil =>
    cases taken
    exact .refl _
  | cons c cs ih =>
    unfold takeSet at taken
    split at taken
    · cases taken
    next e others first =>
      obtain ⟨⟨more, left⟩, found, same⟩ := Option.map_eq_some_iff.1 taken
      cases same
      exact (takeOldest_perm first).trans ((ih found).cons e)

/-! ## Mounting (R17, R18) -/

@[simp] theorem State.dropCharges_charges (s : State) : s.dropCharges.charges = { s.charges with queue := [] } := by
  unfold State.dropCharges
  split <;> rfl

@[simp] theorem State.disarm_charges (s : State) : s.disarm.charges = { s.charges with arming := none } := rfl

/-- A snapshot is there only while a capture waits, so cancelling leaves none (R59, R71). -/
theorem State.cancelWaiting_charges (waiting : s.scale.snapshot.isSome = true → s.scale.capture = .waiting) :
    s.cancelWaiting.charges = { s.charges with snapshot := none } := by
  unfold State.cancelWaiting
  split
  · rfl
  next idle =>
    have none : s.scale.snapshot = none := by simpa using mt waiting idle
    simp [State.charges, none]

theorem State.releaseStation_charges (fit : NumbersFit s.scale s.ring) :
    s.releaseStation.charges = { s.charges with queue := [], arming := none, snapshot := none } := by
  rw [State.releaseStation, State.cancelWaiting_charges (by simpa [State.disarm] using fit.waiting), State.disarm_charges,
    State.dropCharges_charges]

/-- Before a tool is mounted nothing is queued, armed or captured for: what a former tool left is dropped, and with none
mounted nothing was there but the arming record. -/
theorem State.unmountFormer_charges (fit : NumbersFit s.scale s.ring) (sound : s.charges.Sound) :
    s.unmountFormer.charges = { s.charges with queue := [], arming := none, snapshot := none } := by
  unfold State.unmountFormer
  split
  · exact State.releaseStation_charges fit
  next former =>
    have bare : s.cycle.mounted = none := by simpa using former
    have queue : s.queue = [] := sound.noTool bare
    have snapshot : s.scale.snapshot = none := by
      by_contra some
      obtain ⟨p, taken⟩ := Option.ne_none_iff_exists'.1 some
      obtain ⟨low, high⟩ := sound.snapshot p taken
      exact s.mounted_of_cavityCount (low.trans high) bare
    rw [State.disarm_charges]
    simp [State.charges, queue, snapshot]

/-- Which slot is mounted decides the cavity count, and nothing else of the view. -/
theorem State.setMounted_charges (s : State) (m : Option SlotIx) :
    (s.setMounted m).charges = { s.charges with mounted := m, cavities := (s.setMounted m).cavityCount } := rfl

theorem State.mountSlot_chargesSound (fit : NumbersFit s.scale s.ring) (sound : s.charges.Sound) (i : SlotIx) :
    (s.mountSlot i).charges.Sound := by
  rw [State.mountSlot, State.evaluate_charges, State.enter_charges, State.setWorkings_charges, State.setMounted_charges,
    State.unmountFormer_charges fit sound]
  exact sound.remount _ _

theorem State.unmountTool_chargesSound (fit : NumbersFit s.scale s.ring) (sound : s.charges.Sound) :
    s.unmountTool.charges.Sound := by
  rw [State.unmountTool, State.enter_charges, State.setWorkings_charges, State.setMounted_charges,
    State.releaseStation_charges fit]
  exact sound.remount _ _

/-! ## The tool table (R4, R5) -/

/-- A write to a slot that is not mounted. -/
theorem State.setTool_charges_of_other (v : Option Tool) {i : SlotIx} (other : s.isMounted i = false) :
    (s.setTools (s.tools.set i v)).charges = s.charges :=
  s.setTool_charges i v fun mounted => by simp [State.isMounted, mounted] at other

/-- A write to an empty slot: the mounted tool, if it is that slot's, had no cavity. -/
theorem State.setTool_chargesSound_of_empty (sound : s.charges.Sound) (v : Option Tool) {i : SlotIx}
    (empty : s.tools[i] = none) : (s.setTools (s.tools.set i v)).charges.Sound := by
  refine sound.grow (n := (s.setTools (s.tools.set i v)).cavityCount) ?_
  by_cases mounted : s.cycle.mounted = some i
  · simp [State.charges, State.cavityCount, State.mountedTool, mounted, empty]
  · exact (s.setTool_cavityCount i v fun h => absurd h mounted).ge

/-! ## RESTART and power-on (R109, R156) -/

@[simp] theorem State.restartHeat_charges (s : State) : s.restartHeat.charges = s.charges := by simp [State.restartHeat]

@[simp] theorem State.restartFindings_charges (s : State) : s.restartFindings.charges = s.charges := by
  unfold State.restartFindings
  split
  · exact s.endCure_charges
  · exact s.updateOpen_charges fun _ => rfl
  all_goals rfl

@[simp] theorem State.restartClose_charges (s : State) : s.restartClose.charges = s.charges := by
  unfold State.restartClose
  split <;> simp

theorem State.restartUnmount_charges (s : State) : s.restartUnmount.charges
    = { s.charges with queue := [], mounted := none, cavities := 0, arming := none, snapshot := none } := by
  rw [State.restartUnmount, State.enter_charges, State.setWorkings_charges]
  rfl

theorem State.restartAct_chargesSound (sound : s.charges.Sound) : s.restartAct.charges.Sound := by
  rw [State.restartAct, State.restartNotices_charges, State.restartUnmount_charges, State.restartClose_charges,
    State.restartHeat_charges]
  exact sound.remount _ _

theorem State.answerSent_chargesSound (sound : s.charges.Sound) : s.answerSent.charges.Sound := by
  unfold State.answerSent
  rw [State.setPort_charges]
  split
  · exact State.restartAct_chargesSound sound
  · exact sound

theorem State.powerOn_chargesSound (s : State) (held : Bool) : (s.powerOn held).charges.Sound :=
  have reset : (s.powerOn held).charges = ⟨[], [], none, 0, none, none⟩ := rfl
  reset ▸ ⟨Nat.zero_le _, nofun, fun _ => rfl, nofun, nofun, List.nodup_nil⟩

end

end Sys2Proof.Machine
end

section
/-! PROOF. Every command kind and every event keeps the charge queue sound, and so does every step (R67, R73, R80, R91). -/

namespace Sys2Proof.Machine

/-! ## Commands that leave the charges alone -/

section
variable (body : List Byte) (s : State)

@[simp] theorem Reply.refuse_state (v : Status) : (Reply.refuse s v).state = s := rfl
@[simp] theorem Reply.done_state (b : List Byte) : (Reply.done s b).state = s := rfl
@[simp] theorem Reply.doneOr_state (clamped : Bool) (b : List Byte) : (Reply.doneOr clamped s b).state = s := rfl

/-- What holds before a command and after its own rule holds, whatever the length of its body. -/
theorem Reply.ofLength_holds {P : State → Prop} {s : State} {agrees : Bool} {k : Reply} (before : P s)
    (after : P k.state) : P (Reply.ofLength agrees s k).state := by
  cases agrees
  · exact before
  · exact after

theorem Reply.ofLength_charges {s : State} {agrees : Bool} {k : Reply} (same : k.state.charges = s.charges) :
    (Reply.ofLength agrees s k).state.charges = s.charges :=
  Reply.ofLength_holds (P := fun t => t.charges = s.charges) rfl same

@[simp] theorem identifyCommand_charges : (identifyCommand body s).state.charges = s.charges := Reply.ofLength_charges rfl
@[simp] theorem readStatusCommand_charges : (readStatusCommand body s).state.charges = s.charges :=
  Reply.ofLength_charges rfl
@[simp] theorem readNoticesCommand_charges : (readNoticesCommand body s).state.charges = s.charges :=
  Reply.ofLength_charges rfl
@[simp] theorem setClockCommand_charges : (setClockCommand body s).state.charges = s.charges := Reply.ofLength_charges rfl
@[simp] theorem restartCommand_charges : (restartCommand body s).state.charges = s.charges := Reply.ofLength_charges rfl
@[simp] theorem setWindowCommand_charges : (setWindowCommand body s).state.charges = s.charges :=
  Reply.ofLength_charges (s.setDrive_charges _)

@[simp] theorem readZoneCommand_charges : (readZoneCommand body s).state.charges = s.charges :=
  Reply.ofLength_charges (by split <;> rfl)

@[simp] theorem loadRatesCommand_charges : (loadRatesCommand body s).state.charges = s.charges :=
  Reply.ofLength_charges (by split_ifs <;> rfl)

@[simp] theorem setZoneCommand_charges : (setZoneCommand body s).state.charges = s.charges :=
  Reply.ofLength_charges (by split <;> simp)

@[simp] theorem setSupplyCommand_charges : (setSupplyCommand body s).state.charges = s.charges := by
  refine Reply.ofLength_charges ?_
  split
  · rfl
  · exact s.setDrive_charges _

@[simp] theorem heatCommand_charges : (heatCommand body s).state.charges = s.charges :=
  Reply.ofLength_charges (by split <;> simp)

@[simp] theorem setStationCommand_charges : (setStationCommand body s).state.charges = s.charges :=
  Reply.ofLength_charges (by split <;> rfl)

@[simp] theorem tareCommand_charges : (tareCommand body s).state.charges = s.charges :=
  Reply.ofLength_charges (by split <;> rfl)

@[simp] theorem spanCommand_charges : (spanCommand body s).state.charges = s.charges :=
  Reply.ofLength_charges (by split_ifs <;> rfl)

@[simp] theorem listChargesCommand_charges : (listChargesCommand body s).state.charges = s.charges :=
  Reply.ofLength_charges (by split <;> rfl)

@[simp] theorem abortCommand_charges : (abortCommand body s).state.charges = s.charges :=
  Reply.ofLength_charges (by split <;> simp)

@[simp] theorem retryEjectCommand_charges : (retryEjectCommand body s).state.charges = s.charges :=
  Reply.ofLength_charges (by split <;> rfl)

@[simp] theorem abandonEjectCommand_charges : (abandonEjectCommand body s).state.charges = s.charges :=
  Reply.ofLength_charges (by split <;> simp)

@[simp] theorem reportRecord_charges (r : Option PartRecord) : (reportRecord s r).state.charges = s.charges := by
  cases r <;> rfl

@[simp] theorem readPartCommand_charges : (readPartCommand body s).state.charges = s.charges :=
  Reply.ofLength_charges (reportRecord_charges s _)

@[simp] theorem readOldestPartCommand_charges : (readOldestPartCommand body s).state.charges = s.charges :=
  Reply.ofLength_charges (reportRecord_charges s _)

@[simp] theorem setSerialCommand_charges : (setSerialCommand body s).state.charges = s.charges := by
  refine Reply.ofLength_charges ?_
  split_ifs
  · rfl
  · rfl
  · rfl
  · exact s.changeRing_charges _

@[simp] theorem stageRecipeCommand_charges : (stageRecipeCommand body s).state.charges = s.charges := by
  refine Reply.ofLength_charges ?_
  split
  · rfl
  · split
    · rfl
    · split <;> simp

end

/-! ## Commands that change them -/

section
variable {s : State} (body : List Byte)

theorem defineToolCommand_chargesSound (sound : s.charges.Sound) : (defineToolCommand body s).state.charges.Sound := by
  refine Reply.ofLength_holds (P := fun t => t.charges.Sound) sound ?_
  split
  · exact sound
  · split
    next i held =>
      split
      · exact sound
      next other =>
        rwa [Reply.done_state, State.writeTool, State.setTool_charges_of_other _ (by simpa using other)]
    · split
      · exact sound
      next i found =>
        exact State.setTool_chargesSound_of_empty sound _ (by simpa using List.find?_some found)

theorem clearToolCommand_chargesSound (sound : s.charges.Sound) : (clearToolCommand body s).state.charges.Sound := by
  refine Reply.ofLength_holds (P := fun t => t.charges.Sound) sound ?_
  split
  · exact sound
  · split
    · exact sound
    next other => rwa [Reply.done_state, State.setTool_charges_of_other _ (by simpa using other)]

theorem mountCommand_chargesSound (fit : NumbersFit s.scale s.ring) (sound : s.charges.Sound) :
    (mountCommand body s).state.charges.Sound := by
  refine Reply.ofLength_holds (P := fun t => t.charges.Sound) sound ?_
  split
  · exact sound
  · split
    · exact sound
    · split
      · exact sound
      · split
        · exact sound
        · exact State.mountSlot_chargesSound fit sound _

theorem unmountCommand_chargesSound (fit : NumbersFit s.scale s.ring) (sound : s.charges.Sound) :
    (unmountCommand body s).state.charges.Sound := by
  refine Reply.ofLength_holds (P := fun t => t.charges.Sound) sound ?_
  split
  · exact State.unmountTool_chargesSound fit sound
  · exact sound

theorem armCommand_chargesSound (sound : s.charges.Sound) : (armCommand body s).state.charges.Sound := by
  refine Reply.ofLength_holds (P := fun t => t.charges.Sound) sound ?_
  dsimp only
  split
  · exact sound
  next t mounted =>
    split
    · exact sound
    next inRange =>
      split
      · refine sound.arm ?_
        have count : s.charges.cavities = t.cavityCount := by simp [State.charges, State.cavityCount, mounted]
        omega
      · exact sound

theorem captureCommand_chargesSound (sound : s.charges.Sound) : (captureCommand body s).state.charges.Sound := by
  refine Reply.ofLength_holds (P := fun t => t.charges.Sound) sound ?_
  split
  · exact sound
  · split
    · exact sound
    · exact State.beginCapture_chargesSound sound ‹_›

theorem discardCommand_chargesSound (sound : s.charges.Sound) : (discardCommand body s).state.charges.Sound := by
  refine Reply.ofLength_holds (P := fun t => t.charges.Sound) sound ?_
  split
  · exact sound
  · rw [Reply.done_state, State.changeQueue_charges]
    exact sound.leave List.eraseP_sublist

theorem startCommand_chargesSound (sound : s.charges.Sound) : (startCommand body s).state.charges.Sound := by
  refine Reply.ofLength_holds (P := fun t => t.charges.Sound) sound ?_
  split
  · exact sound
  · split
    · exact sound
    · split
      · exact sound
      · split
        · exact sound
        · split
          · exact sound
          next charges rest taken =>
            rw [Reply.done_state, State.startCycle_charges]
            exact sound.record (takeSet_perm taken)

theorem releasePartsCommand_chargesSound (sound : s.charges.Sound) : (releasePartsCommand body s).state.charges.Sound := by
  refine Reply.ofLength_holds (P := fun t => t.charges.Sound) sound ?_
  rw [Reply.done_state, State.changeRing_charges]
  exact sound.release ((List.dropWhile_sublist _).map _)

/-! ## Telegrams -/

/-- Every command kind keeps the charge queue sound. -/
theorem commandOf_chargesSound {kind : Byte} {f : State → Reply} (named : commandOf kind body = some f)
    (fit : NumbersFit s.scale s.ring) (sound : s.charges.Sound) : (f s).state.charges.Sound := by
  unfold commandOf at named
  split at named <;> cases named
  case h_7 => exact defineToolCommand_chargesSound body sound
  case h_8 => exact clearToolCommand_chargesSound body sound
  case h_11 => exact mountCommand_chargesSound body fit sound
  case h_12 => exact unmountCommand_chargesSound body fit sound
  case h_18 => exact armCommand_chargesSound body sound
  case h_19 => exact captureCommand_chargesSound body sound
  case h_22 => exact discardCommand_chargesSound body sound
  case h_24 => exact startCommand_chargesSound body sound
  case h_30 => exact releasePartsCommand_chargesSound body sound
  all_goals simpa using sound

/-- A judged telegram leaves the state as it was or as its command kind's own rule leaves it (R151). -/
theorem State.judge_cases (s : State) (guard : Byte) (own : Option (State → Reply)) :
    (s.judge guard own).state = s ∨ ∃ f, own = some f ∧ (s.judge guard own).state = (f s).state := by
  unfold State.judge
  split
  · exact .inl rfl
  · split
    · exact .inl rfl
    next f =>
      split
      · exact .inr ⟨f, rfl, rfl⟩
      · exact .inl rfl

/-- A telegram finds the charge queue's premises, or it finds an answer owed and is discarded (R150). -/
def State.telegramReady (s : State) : Prop := s.port.answerOwed = true ∨ NumbersFit s.scale s.ring

/-- A telegram of any kind keeps the charge queue sound; one that is carried out leaves its answer owed. -/
theorem State.take_chargesSound (kind guard : Byte) (ready : s.telegramReady) (sound : s.charges.Sound) :
    (s.take kind guard (commandOf kind body)).charges.Sound ∧ (s.take kind guard (commandOf kind body)).telegramReady := by
  cases pin : s.inputs.resetPin
  · cases owed : s.port.answerOwed
    · rw [s.take_judged kind guard _ pin owed]
      refine ⟨?_, .inl rfl⟩
      rw [State.owe_charges]
      obtain same | ⟨f, named, same⟩ := s.hunt.judge_cases guard (commandOf kind body)
      · rwa [same]
      · rw [same]
        exact commandOf_chargesSound body named (ready.resolve_left (by simp [owed])) sound
    · rw [s.take_owed kind guard _ pin owed]
      exact ⟨sound, ready⟩
  · rw [s.take_held kind guard _ pin]
    exact ⟨sound, ready⟩

/-- A command row carries out the telegram it stands for; a row of an unknown kind with a known kind byte does nothing. -/
theorem exec_commandRow {c : Instr} {kind guard : Byte} {body : List Byte} (row : commandRow c = some (kind, guard, body))
    (s : State) : exec c s = .next (s.take kind guard (commandOf kind body)) ∨ exec c s = .next s := by
  cases c
  case unknownKind =>
    cases row
    simp only [exec, execUnknownKind]
    cases commandOf kind body
    · exact .inl rfl
    · exact .inr rfl
  all_goals cases row
  all_goals exact .inl rfl

/-! ## Bytes -/

/-- A byte keeps the charge queue sound, whether or not it completes a telegram. -/
theorem State.receive_chargesSound (ready : s.telegramReady) (sound : s.charges.Sound) (b : RxByte) :
    (s.receive b).charges.Sound ∧ (s.receive b).telegramReady := by
  cases pin : s.inputs.resetPin
  · unfold State.receive
    rw [s.unlessHeld_released _ pin]
    dsimp only
    split
    · exact ⟨sound, ready⟩
    · exact State.take_chargesSound (s := s.setTimers _) _ _ _ ready sound
  · rw [s.receive_held b pin]
    exact ⟨sound, ready⟩

theorem State.receiveAll_chargesSound (bytes : List RxByte) (ready : s.telegramReady) (sound : s.charges.Sound) :
    (s.receiveAll bytes).charges.Sound := by
  induction bytes generalizing s with
  | nil => exact sound
  | cons b bytes ih =>
    obtain ⟨sound, ready⟩ := State.receive_chargesSound ready sound b
    exact ih ready sound

end

/-! ## Events -/

section
variable {s t : State}

/-- An event keeps the charge queue sound, if what its rule makes of the state is sound. -/
theorem Charges.Sound.unlessHeld (sound : s.charges.Sound) (released : t.charges.Sound) :
    (s.unlessHeld t).charges.Sound := by
  unfold State.unlessHeld
  split <;> assumption

/-- So does an event that its rule carries out only in some states. -/
theorem Charges.Sound.onlyWhere (sound : s.charges.Sound) {p : Prop} [Decidable p] (done : t.charges.Sound) :
    (if p then t else s).charges.Sound := by
  split <;> assumption

/-- Every event keeps the charge queue sound. -/
theorem exec_event_chargesSound {c : Instr} (row : commandRow c = none) (fit : NumbersFit s.scale s.ring)
    (sound : s.charges.Sound) : ∃ t, exec c s = .next t ∧ t.charges.Sound := by
  cases c
  case powerOnReset held =>
    refine ⟨_, rfl, ?_⟩
    split
    · exact s.powerOn_chargesSound true
    · exact s.powerOn_chargesSound false
  case telegramDiscarded bytes => exact ⟨_, rfl, State.receiveAll_chargesSound bytes (.inr fit) sound⟩
  case syncByteReceived =>
    obtain ⟨kept, _⟩ := State.receive_chargesSound (.inr fit) sound ⟨Config.commandSync, false⟩
    exact ⟨_, rfl, kept⟩
  case interByteGapTimeout =>
    refine ⟨_, rfl, .unlessHeld sound ?_⟩
    split <;> exact sound
  case answerSent => exact ⟨_, rfl, .unlessHeld sound (.onlyWhere sound (State.answerSent_chargesSound sound))⟩
  case secondAdvance => exact ⟨_, rfl, .unlessHeld sound (State.advanceSecond_chargesSound sound)⟩
  case chargeExpiry => exact ⟨_, rfl, .unlessHeld sound (.onlyWhere sound (State.advanceSecond_chargesSound sound))⟩
  case bridgeSample count => exact ⟨_, rfl, .unlessHeld sound (State.sampleBridge_chargesSound fit sound count)⟩
  case captureComplete count | tareComplete count | spanComplete count =>
    exact ⟨_, rfl, .unlessHeld sound (.onlyWhere sound (State.sampleBridge_chargesSound fit sound count))⟩
  case captureKeyRising => exact ⟨_, rfl, .unlessHeld sound (State.keyRequest_chargesSound sound)⟩
  case captureTimeout =>
    refine ⟨_, rfl, .unlessHeld sound ?_⟩
    split
    · split
      · exact sound
      · exact sound.endCapture
    · exact sound
  case cureSecond =>
    refine ⟨_, rfl, .unlessHeld sound ?_⟩
    split
    · exact sound
    · simpa using sound
  case maximumCureReached =>
    refine ⟨_, rfl, .unlessHeld sound ?_⟩
    split
    · exact sound
    · exact .onlyWhere sound (by simpa using sound)
  case zoneSample | windowStart | eStopRising | eStopFalling | pressOpenRising | ejectAtFwdRising | ejectAtBackRising
      | ejectAtBackFalling =>
    exact ⟨_, rfl, .unlessHeld sound (by simpa using sound)⟩
  case takeoutClearRising =>
    have closed : s.closeCycle.charges.Sound := by simpa using sound
    exact ⟨_, rfl, .unlessHeld sound (sound.onlyWhere closed)⟩
  case pressClosedRising | pressClosedFalling =>
    refine ⟨_, rfl, .unlessHeld sound ?_⟩
    split
    · simpa using sound
    · exact sound
  case settleTimeReached | zoneFaultEntry | zoneRecovery | onTimeEnd | closeTimeout | openOverdue | ejectStall | ejectJam =>
    exact ⟨_, rfl, .unlessHeld sound (.onlyWhere sound (by simpa using sound))⟩
  all_goals cases row

end

/-! ## Every step -/

/-- Every command and event keeps the charge queue sound. -/
theorem exec_chargesSound {s t : State} {c : Instr} (fit : NumbersFit s.scale s.ring) (sound : s.charges.Sound)
    (next : exec c s = .next t) : t.charges.Sound := by
  cases row : commandRow c with
  | none =>
    obtain ⟨u, done, kept⟩ := exec_event_chargesSound row fit sound
    exact Host.Outcome.next.inj (done.symm.trans next) ▸ kept
  | some telegram =>
    obtain ⟨kind, guard, body⟩ := telegram
    obtain done | done := exec_commandRow row s
    · exact Host.Outcome.next.inj (done.symm.trans next) ▸ (State.take_chargesSound body kind guard (.inr fit) sound).1
    · exact Host.Outcome.next.inj (done.symm.trans next) ▸ sound

/-- Settles O58: a view of the state gathers what the invariants speak of, and each operation leaves it alone or changes
it in one of the few ways that stay sound. The number an admitted charge is given is free, since fewer are held than
there are; START moves charges from the queue to a record, and no other operation adds any. -/
theorem everyStepKeepsTheChargesSound : Obligations.EveryStepKeepsTheChargesSound := by
  intro s t scale ring queue charge next
  have fit := numbersFit_of_inv scale ring
  have sound := s.charges_sound_iff.2 ⟨queue, charge⟩
  refine t.charges_sound_iff.1 ?_
  unfold step at next
  split at next
  · exact Host.Outcome.next.inj next ▸ sound.unlessHeld (t := s.elapse 1) sound
  next c rest _ => exact exec_chargesSound (s := s.setPending rest) fit sound next

end Sys2Proof.Machine
end

section
/-! PROOF. DISCARD (R86): the entry found by its number, the queue without it, the ready reasons afterwards, and the
statement. -/

namespace Sys2Proof.Machine

/-! ## The entry with a number -/

section
variable {q : List ChargeEntry} (distinct : (q.map (·.number)).Nodup)
include distinct

/-- Where no number stands twice, the entry found by its number is the one that holds it. -/
theorem find?_number {e : ChargeEntry} (queued : e ∈ q) : q.find? (fun d => d.number == e.number) = some e := by
  cases found : q.find? (fun d => d.number == e.number) with
  | none => simpa using List.find?_eq_none.1 found e queued
  | some d =>
    have same : d.number = e.number := by simpa using List.find?_some found
    rw [List.inj_on_of_nodup_map distinct (List.mem_of_find?_eq_some found) queued same]

/-- Where no number stands twice, the queue without the first entry of a number has no entry of it. -/
theorem eraseP_number (n : Nat) : q.eraseP (fun d => d.number == n) = q.filter (fun d => d.number ≠ n) := by
  induction q with
  | nil => rfl
  | cons e q ih =>
    obtain ⟨alone, distinct⟩ := List.nodup_cons.1 distinct
    by_cases same : e.number = n
    · have others : ∀ d ∈ q, d.number ≠ n := fun d m h =>
        alone (List.mem_map.2 ⟨d, m, h.trans same.symm⟩)
      simpa [same] using (List.filter_eq_self.2 (by simpa using others)).symm
    · simpa [same] using ih distinct

end

/-! ## The ready reasons after a change of the queue (R82, R95) -/

section
variable {s : State} (inv : CycleInv s)
include inv

/-- In a sound state the ready reasons agree with the conditions as they stand. -/
theorem reevaluated_self : Reevaluated s s := by
  unfold Reevaluated
  split
  next waits =>
    have agree := inv.agree waits
    have ready : s.cycle.ready = s.cycle.reasons.isNone := Bool.eq_iff_iff.2 (inv.ready.trans (inv.decide waits))
    have state : s.cycle.state = if s.cycle.reasons.isNone then .ready else .standby := by
      split
      next none => exact (inv.decide waits).2 none
      next some =>
        have other := mt (inv.decide waits).1 some
        cases h : s.cycle.state <;> simp_all [CycleState.waits]
    rw [← agree, ← state, ← ready]
  · rfl

/-- A change of the queue leaves the ready reasons in agreement with it: they are evaluated where the short cavities
change, and agree without that where they do not. -/
theorem State.changeQueue_reevaluated (q : List ChargeEntry) : Reevaluated s (s.changeQueue q) := by
  obtain ⟨e, short⟩ | e := s.changeQueue_cases q <;> rw [e]
  · have conditions : (s.setQueue q).conditions = s.conditions := by
      show { s.conditions with noCharge := !(shortCavities q s.cavityCount).isEmpty } = s.conditions
      rw [short]
      rfl
    unfold Reevaluated
    rw [conditions]
    exact reevaluated_self inv
  · exact (s.setQueue q).evaluate_reevaluated

end

/-! ## What DISCARD answers -/

section
variable {s : State} {guard : Byte}

theorem discardCommand_badLength {body : List Byte} (length : body.length ≠ 2) :
    discardCommand body s = .refuse s .badLength := by
  rw [discardCommand, beq_false_of_ne length, Reply.ofLength_false]

theorem discardCommand_notFound {n : Nat} (fits : n < 65536) (absent : ∀ e ∈ s.queue, e.number ≠ n) :
    discardCommand (be16 n) s = .refuse s .notFound := by
  have found : s.queue.find? (fun e => e.number == n) = none := List.find?_eq_none.2 (by simpa using absent)
  simp [discardCommand, u16_be16 n fits, found]

theorem discardCommand_done (distinct : (s.queue.map (·.number)).Nodup) {e : ChargeEntry} (fits : e.number < 65536)
    (queued : e ∈ s.queue) : discardCommand (be16 e.number) s
      = .done (s.changeQueue (s.queue.filter (fun d => d.number ≠ e.number))) (byte e.cavity :: be16 e.mass) := by
  simp only [discardCommand, u16_be16 _ fits, find?_number distinct queued, eraseP_number distinct]
  rfl

/-- DISCARD accepted is carried out by its own rule, over the port that hunts again (R150, R151). -/
theorem exec_discard (body : List Byte) (h : s.accepts guard) : exec (.discard guard body) s
    = .next ((discardCommand body s.hunt).state.owe 0x38 (discardCommand body s.hunt).status
        (discardCommand body s.hunt).body) :=
  congrArg _ (s.take_accepts 0x38 guard (discardCommand body) h)

/-- The port's receive state is no part of what a change of the queue reads. -/
theorem State.hunt_changeQueue (s : State) (q : List ChargeEntry) : s.hunt.changeQueue q = (s.changeQueue q).hunt := by
  by_cases short : shortCavities q s.cavityCount = shortCavities s.queue s.cavityCount
  · have plain : s.changeQueue q = s.setQueue q := if_pos short
    have hunting : s.hunt.changeQueue q = s.hunt.setQueue q := if_pos short
    rw [plain, hunting]
    rfl
  · have plain : s.changeQueue q = (s.setQueue q).evaluate := if_neg short
    have hunting : s.hunt.changeQueue q = (s.hunt.setQueue q).evaluate := if_neg short
    rw [plain, hunting]
    rfl

end

/-- Settles O36: each clause is one case of DISCARD's rule. The entry found is the one of that number, since no number is
queued twice, and a change of the queue leaves the ready reasons in agreement. -/
theorem discardRemovesOneEntry : Obligations.DiscardRemovesOneEntry := by
  intro s guard n accepted inv distinct fits
  refine ⟨fun body length => ?_, ?_, fun absent => ?_⟩
  · rw [exec_discard body accepted, discardCommand_badLength length]
    rfl
  · rintro e queued rfl
    refine ⟨(s.changeQueue (s.queue.filter (fun d => d.number ≠ e.number))).answering 0x38 .done
      (byte e.cavity :: be16 e.mass), ?done, ?queue, rfl, s.changeQueue_reevaluated inv _, ?frame⟩
    case done =>
      rw [exec_discard _ accepted, discardCommand_done (s := s.hunt) distinct fits queued, Reply.done,
        State.hunt_changeQueue]
      rfl
    case queue => exact congrArg Charges.queue (s.changeQueue_charges _)
    case frame => obtain ⟨e, _⟩ | e := s.changeQueue_cases _ <;> rw [e] <;> rfl
  · rw [exec_discard _ accepted, discardCommand_notFound (s := s.hunt) fits absent]
    rfl

end Sys2Proof.Machine
end

section
/-! PROOF. A property that a step keeps: what has to be shown of it for telegrams, bytes and events alike. -/

namespace Sys2Proof.Machine

/-! ## Telegrams and bytes -/

/-- A property of states that the port and the timers have no part in and that every command kind's own rule keeps. -/
structure KeptByCommands (P : State → Prop) : Prop where
  port : ∀ s v, P s → P (s.setPort v)
  timers : ∀ s v, P s → P (s.setTimers v)
  commands : ∀ kind body f, commandOf kind body = some f → ∀ s, P s → P (f s).state

namespace KeptByCommands

variable {P : State → Prop} (kept : KeptByCommands P) {s : State}
include kept

/-- A telegram of any kind keeps it, taken or not (R150, R151). -/
theorem take (before : P s) (kind guard : Byte) (body : List Byte) : P (s.take kind guard (commandOf kind body)) := by
  cases pin : s.inputs.resetPin
  · have hunting : P s.hunt := kept.port s _ before
    cases owed : s.port.answerOwed
    · rw [s.take_judged kind guard _ pin owed]
      refine kept.port _ _ ?_
      obtain same | ⟨f, named, same⟩ := s.hunt.judge_cases guard (commandOf kind body) <;> rw [same]
      · exact hunting
      · exact kept.commands kind body f named _ hunting
    · rwa [s.take_owed kind guard _ pin owed]
  · rwa [s.take_held kind guard _ pin]

/-- A byte keeps it, whether or not it completes a telegram (R149). -/
theorem receive (before : P s) (b : RxByte) : P (s.receive b) := by
  cases pin : s.inputs.resetPin
  · have timed := kept.timers s { s.timers with gap := 0 } before
    unfold State.receive
    rw [s.unlessHeld_released _ pin]
    dsimp only
    split
    · exact kept.port _ _ timed
    · exact kept.take timed _ _ _
  · rwa [s.receive_held b pin]

theorem receiveAll (before : P s) (bytes : List RxByte) : P (s.receiveAll bytes) :=
  List.foldlRecOn bytes State.receive before fun _ before b _ => kept.receive before b

/-- The row of a command kind keeps it. -/
theorem exec_row (before : P s) {c : Instr} {kind guard : Byte} {body : List Byte}
    (row : commandRow c = some (kind, guard, body)) : ∃ t, exec c s = .next t ∧ P t := by
  obtain done | done := exec_commandRow row s
  · exact ⟨_, done, kept.take before kind guard body⟩
  · exact ⟨s, done, before⟩

end KeptByCommands

/-! ## Events -/

/-- What holds before an event that finds RESET held, and after its rule, holds after the event (R156). -/
theorem State.unlessHeld_holds {s t : State} {P : State → Prop} (held : s.inputs.resetPin = true → P s)
    (released : P t) : P (s.unlessHeld t) := by
  unfold State.unlessHeld
  split
  next pin => exact held pin
  · exact released

end Sys2Proof.Machine
end

section
/-! PROOF. What the invariants of the permits and the ejector speak of (R99, R127): a view of the state that gathers it,
when the view is sound, and which changes keep it so. -/

namespace Sys2Proof.Machine

/-! ## The view -/

/-- A cycle state as the permits and the ejector tell it apart: the three states in which the press or the ejector may
move, and NO_TOOL for every other. -/
def CycleState.movement : CycleState → CycleState
  | .loading => .loading
  | .release => .release
  | .ejecting => .ejecting
  | .noTool | .standby | .ready | .curing | .takeout => .noTool

/-- What the invariants of the permits and of the ejector speak of. -/
structure Interlock where
  movement : CycleState
  closePermit : Bool
  openPermit : Bool
  back : Bool
  eStop : Bool
  sub : EjectSub
  fwd : Bool
  retries : Nat

/-- The view of a state. -/
def State.interlock (s : State) : Interlock where
  movement := s.cycle.state.movement
  closePermit := s.cycle.closePermit
  openPermit := s.cycle.openPermit
  back := s.inputs.ejectAtBack
  eStop := s.inputs.eStop
  sub := s.ejector.sub
  fwd := s.ejector.fwd
  retries := s.ejector.retries

namespace Interlock

/-- The permits are on exactly where R99 has them on. -/
structure Permitted (v : Interlock) : Prop where
  close : v.closePermit = (v.movement == .loading && v.back && !v.eStop)
  opening : v.openPermit = (v.movement == .release && !v.eStop)

/-- The ejector leaves IDLE only in EJECTING, EJECT_FWD is on exactly in EXTENDING, it moves only while E_STOP is negated,
and at most three retries are used (R127, R133, R135). -/
structure Ejects (v : Interlock) : Prop where
  active : v.sub ≠ .idle ↔ v.movement = .ejecting
  forward : v.fwd = true ↔ v.sub = .extending
  moving : v.sub = .extending ∨ v.sub = .retracting → v.eStop = false
  retries : v.retries ≤ 3

/-- The permits and the ejector are sound. -/
structure Sound (v : Interlock) : Prop where
  permits : v.Permitted
  ejects : v.Ejects

/-- The ejector is in IDLE. -/
structure AtRest (v : Interlock) : Prop where
  sub : v.sub = .idle
  fwd : v.fwd = false
  retries : v.retries ≤ 3

/-- The permits are driven by R99. -/
def driven (v : Interlock) : Interlock :=
  { v with
    closePermit := v.movement == .loading && v.back && !v.eStop
    openPermit := v.movement == .release && !v.eStop }

/-- The cycle enters a state, and the permits follow. -/
def enter (v : Interlock) (st : CycleState) : Interlock := { v with movement := st.movement }.driven

/-- The ejector takes a sub-state, and EJECT_FWD follows. -/
def eject (v : Interlock) (sub : EjectSub) : Interlock := { v with sub := sub, fwd := sub == .extending }

/-- EJECT_AT_BACK and E_STOP stand at other levels. -/
def under (v : Interlock) (back eStop : Bool) : Interlock := { v with back := back, eStop := eStop }

end Interlock

theorem CycleState.movement_eq_loading {st : CycleState} : st.movement = .loading ↔ st = .loading := by
  cases st <;> decide

theorem CycleState.movement_eq_release {st : CycleState} : st.movement = .release ↔ st = .release := by
  cases st <;> decide

theorem CycleState.movement_eq_ejecting {st : CycleState} : st.movement = .ejecting ↔ st = .ejecting := by
  cases st <;> decide

/-- The view is sound just if both invariants hold. -/
theorem State.interlock_sound_iff (s : State) : s.interlock.Sound ↔ PermitInv s ∧ EjectorInv s := by
  have permits : s.interlock.Permitted ↔ PermitInv s := by
    have fields : s.interlock.Permitted ↔
        s.cycle.closePermit = (s.cycle.state.movement == .loading && s.inputs.ejectAtBack && !s.inputs.eStop)
          ∧ s.cycle.openPermit = (s.cycle.state.movement == .release && !s.inputs.eStop) :=
      ⟨fun ⟨close, opening⟩ => ⟨close, opening⟩, fun ⟨close, opening⟩ => ⟨close, opening⟩⟩
    rw [fields, PermitInv, Bool.eq_iff_iff (a := s.cycle.closePermit), Bool.eq_iff_iff (a := s.cycle.openPermit)]
    simp [CycleState.movement_eq_loading, CycleState.movement_eq_release, and_assoc]
  have ejects : s.interlock.Ejects ↔ EjectorInv s :=
    ⟨fun ⟨active, forward, moving, retries⟩ =>
      ⟨active.trans CycleState.movement_eq_ejecting, forward, moving, retries⟩,
    fun ⟨active, forward, moving, retries⟩ =>
      ⟨active.trans CycleState.movement_eq_ejecting.symm, forward, moving, retries⟩⟩
  rw [← permits, ← ejects]
  exact ⟨fun ⟨permits, ejects⟩ => ⟨permits, ejects⟩, fun ⟨permits, ejects⟩ => ⟨permits, ejects⟩⟩

/-! ## What keeps the view sound -/

namespace Interlock

variable {v : Interlock}

theorem driven_permitted (v : Interlock) : v.driven.Permitted := ⟨rfl, rfl⟩

/-- Driven permits are sound, and the ejector is none of their affair. -/
theorem Ejects.driven (ejects : v.Ejects) : v.driven.Sound :=
  ⟨v.driven_permitted, ejects.active, ejects.forward, ejects.moving, ejects.retries⟩

/-- Outside EJECTING the ejector is in IDLE. -/
theorem Ejects.atRest (ejects : v.Ejects) (other : v.movement ≠ .ejecting) : v.AtRest := by
  have idle : v.sub = .idle := not_not.1 (mt ejects.active.1 other)
  exact ⟨idle, by simpa [idle] using ejects.forward, ejects.retries⟩

/-- An ejector in IDLE is sound in every state but EJECTING, whatever the levels of the inputs. -/
theorem AtRest.ejects (rest : v.AtRest) (other : v.movement ≠ .ejecting) : v.Ejects where
  active := iff_of_false (not_not.2 rest.sub) other
  forward := by simp [rest.sub, rest.fwd]
  moving := by simp [rest.sub]
  retries := rest.retries

/-- With the ejector in IDLE any state but EJECTING may be entered. -/
theorem AtRest.enter (rest : v.AtRest) {st : CycleState} (other : st ≠ .ejecting) : (v.enter st).Sound := by
  have moved : AtRest { v with movement := st.movement } := ⟨rest.sub, rest.fwd, rest.retries⟩
  exact (moved.ejects (mt CycleState.movement_eq_ejecting.1 other)).driven

/-- In EJECTING the ejector may take any sub-state but IDLE, and one in which it moves only while E_STOP is negated. -/
theorem Permitted.eject (permits : v.Permitted) (ejecting : v.movement = .ejecting) (retries : v.retries ≤ 3)
    {sub : EjectSub} (active : sub ≠ .idle) (moving : sub = .extending ∨ sub = .retracting → v.eStop = false) :
    (v.eject sub).Sound where
  permits := ⟨permits.close, permits.opening⟩
  ejects := ⟨iff_of_true active ejecting, beq_iff_eq, moving, retries⟩

/-- Where nothing may move both permits are off, whatever the levels of the inputs. -/
theorem Permitted.under_of_still (permits : v.Permitted) (close : v.movement ≠ .loading)
    (opening : v.movement ≠ .release) (back eStop : Bool) : (v.under back eStop).Permitted := by
  have off : v.closePermit = false := by simp [permits.close, close]
  have shut : v.openPermit = false := by simp [permits.opening, opening]
  exact ⟨by simp [under, off, close], by simp [under, shut, opening]⟩

/-- Between movements the view is sound under any levels of the inputs. -/
theorem Sound.under_of_still (sound : v.Sound) (still : v.movement = .noTool) (back eStop : Bool) :
    (v.under back eStop).Sound where
  permits := sound.permits.under_of_still (by simp [still]) (by simp [still]) _ _
  ejects := by
    obtain ⟨idle, off, retries⟩ := sound.ejects.atRest (by simp [still])
    exact AtRest.ejects ⟨idle, off, retries⟩ (by simp [under, still])

end Interlock

end Sys2Proof.Machine
end

section
/-! PROOF. What each operation does to the permits and the ejector: most leave them alone, and the rest enter a state or
move the ejector. -/

namespace Sys2Proof.Machine

variable (s : State)

/-- The view reads the cycle controller, the inputs and the ejector, and no more. -/
theorem State.interlock_congr {s t : State} (cycle : t.cycle = s.cycle) (inputs : t.inputs = s.inputs)
    (ejector : t.ejector = s.ejector) : t.interlock = s.interlock := by
  simp only [State.interlock, cycle, inputs, ejector]

theorem State.drivePermits_interlock : s.drivePermits.interlock = s.interlock.driven := by
  simp only [State.drivePermits, State.interlock, Cycle.permitted, Interlock.driven, State.setCycle_cycle,
    State.setCycle_inputs, State.setCycle_ejector]
  cases s.cycle.state <;> rfl

@[simp] theorem State.enter_interlock (st : CycleState) : (s.enter st).interlock = s.interlock.enter st := by
  cases st <;> rfl

/-- STANDBY and READY are alike: nothing moves in either. -/
@[simp] theorem State.evaluate_interlock : s.evaluate.interlock = s.interlock := by
  cases waits : s.cycle.state.waits
  · rw [s.evaluate_other waits]
  · have still : s.cycle.state.movement = .noTool := by
      cases h : s.cycle.state <;> simp_all [CycleState.waits, CycleState.movement]
    have either : (if s.conditions.isNone then CycleState.ready else .standby).movement = .noTool := by split <;> rfl
    rw [s.evaluate_waits waits]
    simp only [State.interlock, State.setCycle_cycle, State.setCycle_inputs, State.setCycle_ejector, still, either]

@[simp] theorem State.applyZones_interlock (f : ZoneIx → ZoneStep → ZoneStep) :
    (s.applyZones f).interlock = s.interlock := by
  obtain ⟨q, e⟩ := s.applyZones_spec f
  rw [e]
  rfl

@[simp] theorem State.followZones_interlock : s.followZones.interlock = s.interlock := s.applyZones_interlock _

@[simp] theorem State.setWorkings_interlock : s.setWorkings.interlock = s.interlock := s.applyZones_interlock _

@[simp] theorem State.applyZone_interlock (z : ZoneIx) (f : ZoneStep → ZoneStep) :
    (s.applyZone z f).interlock = s.interlock := by
  obtain ⟨e, _⟩ | ⟨e, _⟩ := s.applyZone_cases z f <;> rw [e]
  · exact State.interlock_congr (by simp) (by simp) (by simp)
  · rw [State.evaluate_interlock]
    exact State.interlock_congr (by simp) (by simp) (by simp)

@[simp] theorem State.sampleZone_interlock (z : ZoneIx) (r : Reading) : (s.sampleZone z r).interlock = s.interlock :=
  (s.zoneMoment z).applyZone_interlock z _

@[simp] theorem State.configureZone_interlock (z : ZoneIx) (c : ZoneConfig) :
    (s.configureZone z c).interlock = s.interlock := by
  rw [State.configureZone, State.applyZone_interlock]

@[simp] theorem State.setMaster_interlock (on : Bool) : (s.setMaster on).interlock = s.interlock := by
  unfold State.setMaster
  split
  · rfl
  · rw [State.evaluate_interlock, State.followZones_interlock]
    rfl

@[simp] theorem State.changeQueue_interlock (q : List ChargeEntry) : (s.changeQueue q).interlock = s.interlock := by
  obtain ⟨e, _⟩ | e := s.changeQueue_cases q <;> rw [e]
  · rfl
  · exact (s.setQueue q).evaluate_interlock

@[simp] theorem State.changeRing_interlock (r : Ring) : (s.changeRing r).interlock = s.interlock := by
  obtain ⟨e, _⟩ | e := s.changeRing_cases r <;> rw [e]
  · rfl
  · exact (s.setRing r).evaluate_interlock

@[simp] theorem State.promote_interlock (i : SlotIx) : (s.promote i).interlock = s.interlock :=
  State.interlock_congr (by simp) (by simp) (by simp)

@[simp] theorem State.promoteMounted_interlock : s.promoteMounted.interlock = s.interlock :=
  State.interlock_congr (by simp) (by simp) (by simp)

@[simp] theorem State.dispose_interlock (i : SlotIx) : (s.dispose i).interlock = s.interlock := by
  unfold State.dispose
  split
  · rfl
  · split <;> simp

/-! ## The scale and the second advance -/

theorem State.captureOutcome_interlock (p : Snapshot) : (s.captureOutcome p).interlock = s.interlock := by
  unfold State.captureOutcome
  split
  · rfl
  · split
    · rfl
    · exact State.changeQueue_interlock (s.setScale _) _

theorem State.actOnCapture_interlock (before : LoadState) (c : Int) : (s.actOnCapture before c).interlock = s.interlock := by
  unfold State.actOnCapture
  split
  · rfl
  · split
    · rfl
    · split
      · exact s.captureOutcome_interlock _
      · rfl
  · split <;> rfl
  · split
    · rfl
    · exact State.interlock_congr (by simp) (by simp) (by simp)

@[simp] theorem State.sampleBridge_interlock (count : BitVec 24) : (s.sampleBridge count).interlock = s.interlock :=
  State.actOnCapture_interlock (s.bridgeMoment.setScale _) _ _

theorem State.expire_interlock : s.expire.interlock = s.interlock := by
  rw [State.expire, State.changeQueue_interlock]
  exact List.foldlRecOn _ _ (motive := fun t : State => t.interlock = s.interlock) rfl fun _ same _ _ => same

@[simp] theorem State.advanceSecond_interlock : s.advanceSecond.interlock = s.interlock := by
  unfold State.advanceSecond
  dsimp only
  split
  · rfl
  · exact State.expire_interlock (s.secondMoment.setClocks _)

/-! ## The cure second -/

@[simp] theorem State.addFaultIf_interlock (b : Bool) (c : FaultCode) : (s.addFaultIf b c).interlock = s.interlock := by
  cases b <;> rfl

/-- The doses of a cure second and the faults it finds are no part of the view (R114, R119, R120). -/
theorem State.judged_interlock (t : Tool) (r : Recipe) : ((s.accumulate t r).judgeZones t).interlock = s.interlock := by
  rw [State.judgeZones, State.addFaultIf_interlock, State.addFaultIf_interlock, State.addFaultIf_interlock]
  rfl

/-! ## The close of a cycle and the end of a sequence -/

@[simp] theorem State.closeRecord_interlock : s.closeRecord.interlock = s.interlock := by
  unfold State.closeRecord
  split <;> rfl

/-- A cycle that closes ends where nothing moves, whether in STANDBY or in READY. -/
@[simp] theorem State.closeCycle_interlock : s.closeCycle.interlock = s.interlock.enter .standby := by
  rw [State.closeCycle, State.evaluate_interlock, State.enter_interlock, State.promoteMounted_interlock]
  exact congrArg (Interlock.enter · .standby) s.closeRecord_interlock

/-- So does one that enters TAKEOUT, whether or not it closes at once. -/
@[simp] theorem State.enterTakeout_interlock : s.enterTakeout.interlock = s.interlock.enter .takeout := by
  obtain ⟨_, e⟩ | ⟨_, e⟩ := s.enterTakeout_cases <;> rw [e]
  · exact s.enter_interlock .takeout
  · rw [State.closeCycle_interlock, State.enter_interlock]
    rfl

theorem State.endSequence_interlock : s.endSequence.interlock = (s.interlock.eject .idle).enter .takeout := by
  rw [State.endSequence, State.enterTakeout_interlock]
  rfl

theorem State.leaveLoading_interlock : s.leaveLoading.interlock = s.interlock.enter .takeout :=
  s.endPending.enterTakeout_interlock

theorem State.enterEjecting_interlock : s.enterEjecting.interlock
    = { (s.interlock.enter .ejecting) with retries := 0 }.eject .extending := rfl

theorem State.beginStroke_interlock : s.beginStroke.interlock = s.interlock.eject .extending := rfl

end Sys2Proof.Machine
end

section
/-! PROOF. The transitions of a press cycle and of the ejector keep the permits and the ejector sound (R99 to R109, R127 to
R136). -/

namespace Sys2Proof.Machine

variable {s : State}

/-! ## RELEASE, EJECTING and the end of a sequence -/

/-- Outside EJECTING the ejector is in IDLE. -/
theorem State.atRest (sound : s.interlock.Sound) (other : s.cycle.state ≠ .ejecting) : s.interlock.AtRest :=
  sound.ejects.atRest (mt CycleState.movement_eq_ejecting.1 other)

/-- In each sub-state but IDLE the cycle is in EJECTING. -/
theorem State.ejecting_of_active (sound : s.interlock.Sound) (active : s.ejector.sub ≠ .idle) :
    s.interlock.movement = .ejecting := sound.ejects.active.1 active

/-- A sequence ends with the ejector in IDLE, whatever came before (R134, R136). -/
theorem Interlock.endSequence_sound {v : Interlock} (retries : v.retries ≤ 3) : ((v.eject .idle).enter .takeout).Sound :=
  Interlock.AtRest.enter (v := v.eject .idle) ⟨rfl, rfl, retries⟩ (by decide)

theorem State.endSequence_sound (retries : s.ejector.retries ≤ 3) : s.endSequence.interlock.Sound := by
  rw [State.endSequence_interlock]
  exact Interlock.endSequence_sound retries

theorem State.abandonSequence_sound (retries : s.ejector.retries ≤ 3) : s.abandonSequence.interlock.Sound :=
  State.endSequence_sound (s := s.setOutcome .ejectAbandoned) retries

/-- In EJECTING with the ejector not extending, it may stall or jam: EJECT_FWD is off already. -/
theorem State.setSub_sound (sound : s.interlock.Sound) (active : s.ejector.sub ≠ .idle)
    (off : s.ejector.sub ≠ .extending) {sub : EjectSub} (halted : sub = .stalled ∨ sub = .jammed) :
    (s.setEjector { s.ejector with sub := sub }).interlock.Sound := by
  have dark : s.ejector.fwd = false := Bool.eq_false_iff.2 (mt sound.ejects.forward.1 off)
  have same : (s.setEjector { s.ejector with sub := sub }).interlock = s.interlock.eject sub := by
    obtain rfl | rfl := halted <;> simp [State.interlock, Interlock.eject, dark]
  rw [same]
  exact sound.permits.eject (State.ejecting_of_active sound active) sound.ejects.retries
    (by obtain rfl | rfl := halted <;> decide) (by obtain rfl | rfl := halted <;> simp)

/-- The back position in RETRACTING ends the retract by one of the rows of R130. -/
theorem State.judgeBack_sound (sound : s.interlock.Sound) (retracting : s.ejector.sub = .retracting) :
    s.judgeBack.interlock.Sound := by
  have active : s.ejector.sub ≠ .idle := by simp [retracting]
  obtain ⟨_, e⟩ | ⟨_, ⟨_, e⟩ | ⟨_, _, e⟩ | ⟨_, _, _, e⟩ | ⟨_, _, _, e⟩⟩ := s.judgeBack_cases <;> rw [e]
  · exact sound
  · exact State.abandonSequence_sound sound.ejects.retries
  · exact State.setSub_sound sound active (by simp [retracting]) (.inl rfl)
  · rw [State.beginStroke_interlock]
    exact sound.permits.eject (State.ejecting_of_active sound active) sound.ejects.retries (by decide)
      fun _ => sound.ejects.moving (.inr retracting)
  · exact State.endSequence_sound sound.ejects.retries

/-- From EXTENDING the ejector retracts, and the back position is judged at once (R129 to R131). -/
theorem State.retract_sound (sound : s.interlock.Sound) (extending : s.ejector.sub = .extending) (stalled : Bool) :
    (s.retract stalled).interlock.Sound := by
  have retracting : (s.interlock.eject .retracting).Sound :=
    sound.permits.eject (State.ejecting_of_active sound (by simp [extending])) sound.ejects.retries (by decide)
      fun _ => sound.ejects.moving (.inl extending)
  exact State.judgeBack_sound (s := (s.setEjector _).setTimers _) retracting rfl

/-- EJECTING is entered with E_STOP negated and a cleared sequencer, which begins stroke 1 (R102, R103, R128). -/
theorem State.leaveRelease_sound (sound : s.interlock.Sound) : s.leaveRelease.interlock.Sound := by
  obtain ⟨_, _, go, e⟩ | ⟨_, e⟩ := s.leaveRelease_cases <;> rw [e]
  · have permits : Interlock.Permitted { (s.interlock.enter .ejecting) with retries := 0 } := ⟨rfl, rfl⟩
    rw [State.enterEjecting_interlock]
    exact permits.eject rfl (Nat.zero_le 3) (by decide) fun _ => go
  · exact sound

theorem State.enterRelease_sound (rest : s.interlock.AtRest) : s.enterRelease.interlock.Sound := by
  refine State.leaveRelease_sound ?_
  rw [State.enter_interlock]
  exact Interlock.AtRest.enter (v := s.interlock) rest (by decide)

theorem State.stopCure_sound (rest : s.interlock.AtRest) : s.stopCure.interlock.Sound :=
  State.enterRelease_sound (s := s.endCure) rest

theorem State.leaveLoading_sound (rest : s.interlock.AtRest) : s.leaveLoading.interlock.Sound := by
  rw [State.leaveLoading_interlock]
  exact rest.enter (by decide)

theorem State.beginCure_sound (rest : s.interlock.AtRest) : s.beginCure.interlock.Sound := by
  rw [State.beginCure, State.enter_interlock]
  exact Interlock.AtRest.enter (v := s.interlock) rest (by decide)

theorem State.closeCycle_sound (rest : s.interlock.AtRest) : s.closeCycle.interlock.Sound := by
  rw [State.closeCycle_interlock]
  exact rest.enter (by decide)

/-! ## The ejector's commands and events -/

theorem State.abandon_sound (sound : s.interlock.Sound) : s.abandon.interlock.Sound := by
  unfold State.abandon
  split
  · exact State.abandonSequence_sound sound.ejects.retries
  all_goals exact sound

/-- A retry is taken only while fewer than three are used, in STALLED and with E_STOP negated (R133). -/
theorem State.retry_sound (sound : s.interlock.Sound) (may : s.mayRetry = true) : s.retry.interlock.Sound := by
  obtain ⟨⟨⟨ejecting, _⟩, few⟩, go⟩ : ((s.cycle.state = .ejecting ∧ s.ejector.sub = .stalled)
      ∧ s.ejector.retries < Config.maxRetries) ∧ s.inputs.eStop = false := by simpa [State.mayRetry] using may
  have permits : Interlock.Permitted { s.interlock with retries := s.ejector.retries + 1 } :=
    ⟨sound.permits.close, sound.permits.opening⟩
  exact permits.eject (sub := .extending) (CycleState.movement_eq_ejecting.2 ejecting) few (by decide) fun _ => go

theorem State.unjam_sound (sound : s.interlock.Sound) (jammed : s.ejector.sub = .jammed) : s.unjam.interlock.Sound := by
  unfold State.unjam
  split
  · exact State.abandonSequence_sound sound.ejects.retries
  · exact State.setSub_sound sound (by simp [jammed]) (by simp [jammed]) (.inl rfl)

theorem State.forwardReached_sound (sound : s.interlock.Sound) : s.forwardReached.interlock.Sound := by
  unfold State.forwardReached
  split
  next extending =>
    exact State.retract_sound (s := s.setEjector { s.ejector with strokes := s.ejector.strokes + 1 }) sound extending.2 false
  · exact sound

theorem State.forwardReached_inputs (s : State) : s.forwardReached.inputs = s.inputs := by
  unfold State.forwardReached
  split <;> simp

theorem State.backReached_sound (sound : s.interlock.Sound) : s.backReached.interlock.Sound := by
  unfold State.backReached
  split
  · split
    · exact State.judgeBack_sound sound ‹_›
    · exact State.unjam_sound sound ‹_›
    all_goals exact sound
  · exact sound

theorem State.stall_sound (sound : s.interlock.Sound) (extending : s.ejector.sub = .extending) : s.stall.interlock.Sound :=
  State.retract_sound (s := (s.strokeMoment.addFault _).post _ _ _) sound extending true

theorem State.jam_sound (sound : s.interlock.Sound) (retracting : s.ejector.sub = .retracting) : s.jam.interlock.Sound :=
  State.setSub_sound sound (by simp [retracting]) (by simp [retracting]) (.inr rfl)

/-! ## The press cycle -/

theorem State.abortCycle_sound (sound : s.interlock.Sound) : s.abortCycle.interlock.Sound := by
  unfold State.abortCycle
  split
  case h_5 loading => exact State.leaveLoading_sound (s := s.markAborted _) (State.atRest sound (by simp [loading]))
  case h_6 curing => exact State.stopCure_sound (s := s.markAborted _) (State.atRest sound (by simp [curing]))
  case h_8 => exact State.abandon_sound (s := s.addFault _) sound
  all_goals exact sound

theorem State.decideRelease_sound (sound : s.interlock.Sound) (rest : s.interlock.AtRest) (r : Recipe) :
    (s.decideRelease r).interlock.Sound := by
  unfold State.decideRelease
  split
  · exact State.stopCure_sound (s := s.post _ _ _) rest
  · split
    · exact State.stopCure_sound (s := ((s.addFault _).setOutcome _).post _ _ _) rest
    · exact sound

/-- A cure runs in CURING alone. -/
theorem State.state_of_curing {p : Tool × Recipe} (running : s.curing = some p) : s.cycle.state = .curing := by
  unfold State.curing at running
  split at running
  next curing => exact curing.1
  · cases running

theorem State.cureWork_sound (sound : s.interlock.Sound) {t : Tool} {r : Recipe} (running : s.curing = some (t, r)) :
    (s.cureWork t r).interlock.Sound := by
  have same : ((s.cureMoment.accumulate t r).judgeZones t).interlock = s.interlock := s.cureMoment.judged_interlock t r
  have rest := State.atRest sound (by simp [State.state_of_curing running])
  exact State.decideRelease_sound (same ▸ sound) (same ▸ rest) r

theorem State.startCycle_sound (rest : s.interlock.AtRest) (i : SlotIx) (t : Tool) (r : Recipe) (n : Nat)
    (taken left : List ChargeEntry) : (s.startCycle i t r n taken left).interlock.Sound := by
  rw [State.startCycle, State.enter_interlock]
  exact Interlock.AtRest.enter (v := s.interlock) rest (by decide)

theorem State.mountSlot_sound (rest : s.interlock.AtRest) (i : SlotIx) : (s.mountSlot i).interlock.Sound := by
  have former : s.unmountFormer.interlock = s.interlock := State.interlock_congr (by simp) (by simp) (by simp)
  rw [State.mountSlot, State.evaluate_interlock, State.enter_interlock, State.setWorkings_interlock]
  exact Interlock.AtRest.enter (v := s.unmountFormer.interlock) (former ▸ rest) (by decide)

theorem State.unmountTool_sound (rest : s.interlock.AtRest) : s.unmountTool.interlock.Sound := by
  have released : s.releaseStation.interlock = s.interlock := State.interlock_congr (by simp) (by simp) (by simp)
  rw [State.unmountTool, State.enter_interlock, State.setWorkings_interlock]
  exact Interlock.AtRest.enter (v := s.releaseStation.interlock) (released ▸ rest) (by decide)

/-- A cleared sequencer is in IDLE. -/
theorem State.atRest_of_reset (cleared : s.ejector = Ejector.reset) : s.interlock.AtRest where
  sub := congrArg Ejector.sub cleared
  fwd := congrArg Ejector.fwd cleared
  retries := (congrArg Ejector.retries cleared).trans_le (Nat.zero_le 3)

/-- RESTART clears the sequencer and enters NO_TOOL from any state (R109). -/
theorem State.restartAct_sound (s : State) : s.restartAct.interlock.Sound := by
  have same (u : State) : u.restartNotices.interlock = u.interlock := rfl
  rw [State.restartAct, same, State.restartUnmount, State.enter_interlock, State.setWorkings_interlock]
  exact (State.atRest_of_reset (by simp)).enter (by decide)

theorem State.answerSent_sound (sound : s.interlock.Sound) : s.answerSent.interlock.Sound := by
  have same (u : State) (p : Port) : (u.setPort p).interlock = u.interlock := rfl
  rw [State.answerSent, same]
  split
  · exact s.restartAct_sound
  · exact sound

theorem State.powerOn_sound (s : State) (held : Bool) : (s.powerOn held).interlock.Sound where
  permits := ⟨rfl, rfl⟩
  ejects := (State.atRest_of_reset rfl).ejects (show CycleState.noTool ≠ .ejecting by decide)

/-! ## The levels of the inputs -/

/-- The view reads two input levels, and no more. -/
theorem State.setInputs_sound (sound : s.interlock.Sound) {v : Inputs} (back : v.ejectAtBack = s.inputs.ejectAtBack)
    (eStop : v.eStop = s.inputs.eStop) : (s.setInputs v).interlock.Sound := by
  have same : (s.setInputs v).interlock = s.interlock := by
    simp only [State.interlock, State.setInputs_inputs, State.setInputs_cycle, State.setInputs_ejector, back, eStop]
  rwa [same]

/-- The permits follow the level of EJECT_AT_BACK (R99). -/
theorem State.setBack_sound (sound : s.interlock.Sound) (back : Bool) :
    (s.setInputs { s.inputs with ejectAtBack := back }).drivePermits.interlock.Sound := by
  obtain ⟨active, forward, moving, retries⟩ := sound.ejects
  rw [State.drivePermits_interlock]
  exact Interlock.Ejects.driven ⟨active, forward, moving, retries⟩

/-! ## The emergency stop -/

section
variable {back eStop : Bool} (sound : (s.interlock.under back eStop).Sound)
include sound

/-- Where nothing may move the view is sound under the levels it has now. -/
theorem State.still_sound (still : s.cycle.state.movement = .noTool) : s.interlock.Sound :=
  sound.under_of_still still s.inputs.ejectAtBack s.inputs.eStop

/-- Outside EJECTING the ejector is in IDLE under any levels. -/
theorem State.atRest_of_under (other : s.cycle.state ≠ .ejecting) : s.interlock.AtRest := by
  obtain ⟨idle, off, retries⟩ := sound.ejects.atRest (mt CycleState.movement_eq_ejecting.1 other)
  exact ⟨idle, off, retries⟩

/-- In EJECTING both permits stay off under any levels. -/
theorem State.permitted_of_ejecting (ejecting : s.interlock.movement = .ejecting) : s.interlock.Permitted :=
  sound.permits.under_of_still (by simp [Interlock.under, ejecting]) (by simp [Interlock.under, ejecting])
    s.inputs.ejectAtBack s.inputs.eStop

/-- The permits follow the new levels in a state that is not EJECTING. -/
theorem State.drivePermits_sound (other : s.cycle.state ≠ .ejecting) : s.drivePermits.interlock.Sound := by
  rw [State.drivePermits_interlock]
  exact ((State.atRest_of_under sound other).ejects (mt CycleState.movement_eq_ejecting.1 other)).driven

/-- The ejector stands still at an emergency stop: STALLED with the ejector back, JAMMED with it away (R135). -/
theorem State.stopEjector_sound (ejecting : s.cycle.state = .ejecting) : s.stopEjector.interlock.Sound := by
  have halted : (s.setEjector (s.ejector.stopped s.inputs.ejectAtBack)).interlock
      = s.interlock.eject (if s.inputs.ejectAtBack then .stalled else .jammed) := by
    cases h : s.inputs.ejectAtBack <;> simp [State.interlock, Interlock.eject, Ejector.stopped, h]
  have moved := CycleState.movement_eq_ejecting.2 ejecting
  unfold State.stopEjector
  dsimp only
  split
  · exact State.abandonSequence_sound (s := s.setEjector _) sound.ejects.retries
  · rw [halted]
    exact (State.permitted_of_ejecting sound moved).eject moved sound.ejects.retries (by split <;> decide)
      (by split <;> simp)

/-- E_STOP rises: LOADING and CURING are left, both permits go off, and the ejector stops (R106). -/
theorem State.stopCycle_sound : s.stopCycle.interlock.Sound := by
  unfold State.stopCycle
  split
  case h_1 noTool => exact State.still_sound sound (by rw [noTool]; rfl)
  case h_2 waits | h_3 waits =>
    rw [State.evaluate_interlock]
    exact State.still_sound sound (by rw [waits]; rfl)
  case h_4 loading =>
    exact State.leaveLoading_sound (s := s.markAborted _) (State.atRest_of_under sound (by simp [loading]))
  case h_5 curing =>
    exact State.stopCure_sound (s := s.markAborted _) (State.atRest_of_under sound (by simp [curing]))
  case h_6 release => exact State.drivePermits_sound sound (by simp [release])
  case h_7 ejecting => exact State.stopEjector_sound (s := s.addFault _) sound ejecting
  case h_8 takeout =>
    show s.interlock.Sound
    exact State.still_sound sound (by rw [takeout]; rfl)

/-- E_STOP falls: the permits follow in LOADING and RELEASE, and the ejector stays as it stopped (R107). -/
theorem State.resumeCycle_sound (resumed : s.inputs.eStop = false) : s.resumeCycle.interlock.Sound := by
  unfold State.resumeCycle
  split
  case h_1 waits | h_2 waits =>
    rw [State.evaluate_interlock]
    exact State.still_sound sound (by rw [waits]; rfl)
  case h_3 loading => exact State.drivePermits_sound sound (by simp [loading])
  case h_4 release => exact State.leaveRelease_sound (State.drivePermits_sound sound (by simp [release]))
  case h_5 still | h_6 still | h_8 still => exact State.still_sound sound (by rw [still]; rfl)
  case h_7 ejecting =>
    obtain ⟨active, forward, _, retries⟩ := sound.ejects
    exact ⟨State.permitted_of_ejecting sound (CycleState.movement_eq_ejecting.2 ejecting),
      active, forward, fun _ => resumed, retries⟩

end

end Sys2Proof.Machine
end

section
/-! PROOF. Every command kind and every event keeps the permits and the ejector sound, and so does every step (R99, R127). -/

namespace Sys2Proof.Machine

/-- The view of a state is sound. -/
def State.interlocked (s : State) : Prop := s.interlock.Sound

section
variable {s : State} (sound : s.interlocked)
include sound

/-- What leaves the view alone keeps it sound. -/
theorem State.interlocked_of_eq {t : State} (same : t.interlock = s.interlock) : t.interlocked := by
  rwa [State.interlocked, same]

variable (body : List Byte)

theorem mountCommand_interlocked : (mountCommand body s).state.interlocked := by
  refine Reply.ofLength_holds sound ?_
  split
  · exact sound
  next idle =>
    have other : s.cycle.state ≠ .ejecting := fun h => idle (by rw [h]; rfl)
    split
    · exact sound
    · split
      · exact sound
      · split
        · exact sound
        · exact State.mountSlot_sound (State.atRest sound other) _

theorem unmountCommand_interlocked : (unmountCommand body s).state.interlocked := by
  refine Reply.ofLength_holds sound ?_
  split
  next waits => exact State.unmountTool_sound (State.atRest sound fun h => by simp [h, CycleState.waits] at waits)
  · exact sound

theorem startCommand_interlocked : (startCommand body s).state.interlocked := by
  refine Reply.ofLength_holds sound ?_
  split
  · exact sound
  · split
    · exact sound
    next waits =>
      have other : s.cycle.state ≠ .ejecting := fun h => waits (by rw [h]; rfl)
      split
      · exact sound
      · split
        · exact sound
        · split
          · exact sound
          · exact State.startCycle_sound (State.atRest sound other) _ _ _ _ _ _

theorem stageRecipeCommand_interlocked : (stageRecipeCommand body s).state.interlocked := by
  refine Reply.ofLength_holds sound ?_
  split
  · exact sound
  · split
    · exact sound
    · split
      · exact State.interlocked_of_eq sound (State.dispose_interlock (s.stage _ _) _)
      · exact sound

theorem setSerialCommand_interlocked : (setSerialCommand body s).state.interlocked := by
  refine Reply.ofLength_holds sound ?_
  split_ifs
  · exact sound
  · exact sound
  · exact sound
  · exact State.interlocked_of_eq sound (s.changeRing_interlock _)

theorem discardCommand_interlocked : (discardCommand body s).state.interlocked := by
  refine Reply.ofLength_holds sound ?_
  split
  · exact sound
  · exact State.interlocked_of_eq sound (s.changeQueue_interlock _)

theorem armCommand_interlocked : (armCommand body s).state.interlocked := by
  refine Reply.ofLength_holds sound ?_
  dsimp only
  (repeat' split) <;> exact sound

theorem setZoneCommand_interlocked : (setZoneCommand body s).state.interlocked := by
  refine Reply.ofLength_holds sound ?_
  split
  · exact State.interlocked_of_eq sound (s.configureZone_interlock _ _)
  · exact sound

theorem heatCommand_interlocked : (heatCommand body s).state.interlocked := by
  refine Reply.ofLength_holds sound ?_
  split
  · exact sound
  · exact State.interlocked_of_eq sound (s.setMaster_interlock _)

theorem abortCommand_interlocked : (abortCommand body s).state.interlocked := by
  refine Reply.ofLength_holds sound ?_
  split
  · exact State.abortCycle_sound sound
  · exact sound

theorem retryEjectCommand_interlocked : (retryEjectCommand body s).state.interlocked := by
  refine Reply.ofLength_holds sound ?_
  split
  next may => exact State.retry_sound sound may
  · exact sound

theorem abandonEjectCommand_interlocked : (abandonEjectCommand body s).state.interlocked := by
  refine Reply.ofLength_holds sound ?_
  split
  · exact State.abandon_sound sound
  · exact sound

theorem releasePartsCommand_interlocked : (releasePartsCommand body s).state.interlocked :=
  Reply.ofLength_holds sound (State.interlocked_of_eq sound (s.changeRing_interlock _))

theorem reportRecord_interlocked (r : Option PartRecord) : (reportRecord s r).state.interlocked := by
  cases r <;> exact sound

/-- Every command kind keeps the permits and the ejector sound; those not named here write to neither the cycle controller
nor the ejector. -/
theorem commandOf_interlocked {kind : Byte} {f : State → Reply} (named : commandOf kind body = some f) :
    (f s).state.interlocked := by
  unfold commandOf at named
  split at named <;> cases named
  case h_9 => exact stageRecipeCommand_interlocked sound body
  case h_11 => exact mountCommand_interlocked sound body
  case h_12 => exact unmountCommand_interlocked sound body
  case h_13 => exact setZoneCommand_interlocked sound body
  case h_16 => exact heatCommand_interlocked sound body
  case h_18 => exact armCommand_interlocked sound body
  case h_22 => exact discardCommand_interlocked sound body
  case h_24 => exact startCommand_interlocked sound body
  case h_25 => exact abortCommand_interlocked sound body
  case h_26 => exact retryEjectCommand_interlocked sound body
  case h_27 => exact abandonEjectCommand_interlocked sound body
  case h_28 | h_29 => exact Reply.ofLength_holds sound (reportRecord_interlocked sound _)
  case h_30 => exact releasePartsCommand_interlocked sound body
  case h_31 => exact setSerialCommand_interlocked sound body
  all_goals
    refine Reply.ofLength_holds sound ?_
    (repeat' split) <;> exact sound

end

theorem keptByCommands_interlocked : KeptByCommands State.interlocked where
  port _ _ sound := sound
  timers _ _ sound := sound
  commands _ body _ named _ sound := commandOf_interlocked sound body named

/-! ## Events -/

section
variable {s : State}

theorem State.keyRequest_interlock (s : State) : s.keyRequest.interlock = s.interlock := by
  unfold State.keyRequest
  split
  · rfl
  · split <;> rfl

/-- Every event keeps the permits and the ejector sound. While RESET is held nothing may move, so the levels of the inputs
are free. -/
theorem exec_event_interlocked {c : Instr} (row : commandRow c = none) (sound : s.interlocked)
    (held : s.inputs.resetPin = true → s.cycle.state = .noTool) : ∃ t, exec c s = .next t ∧ t.interlocked := by
  have kept {t : State} (same : t.interlock = s.interlock) : t.interlocked := State.interlocked_of_eq sound same
  have event {t : State} (done : t.interlocked) : (s.unlessHeld t).interlocked :=
    State.unlessHeld_holds (fun _ => sound) done
  have onlyWhere {p : Prop} [Decidable p] {t : State} (done : p → t.interlocked) : (if p then t else s).interlocked := by
    split
    next h => exact done h
    · exact sound
  have edge {v : Inputs} {t : State} (pin : v.resetPin = s.inputs.resetPin) (done : t.interlocked) :
      ((s.setInputs v).unlessHeld t).interlocked := by
    refine State.unlessHeld_holds (fun asserted => ?_) done
    have still : s.interlock.movement = .noTool := by rw [State.interlock, held (pin ▸ asserted)]; rfl
    exact Interlock.Sound.under_of_still sound still v.ejectAtBack v.eStop
  cases c
  case powerOnReset level =>
    refine ⟨_, rfl, ?_⟩
    split
    · exact s.powerOn_sound true
    · exact s.powerOn_sound false
  case telegramDiscarded bytes => exact ⟨_, rfl, keptByCommands_interlocked.receiveAll sound bytes⟩
  case syncByteReceived => exact ⟨_, rfl, keptByCommands_interlocked.receive sound _⟩
  case interByteGapTimeout =>
    refine ⟨_, rfl, event ?_⟩
    split <;> exact sound
  case answerSent => exact ⟨_, rfl, event (onlyWhere fun _ => State.answerSent_sound sound)⟩
  case secondAdvance => exact ⟨_, rfl, event (kept s.advanceSecond_interlock)⟩
  case chargeExpiry => exact ⟨_, rfl, event (onlyWhere fun _ => kept s.advanceSecond_interlock)⟩
  case zoneSample z r => exact ⟨_, rfl, event (kept (s.sampleZone_interlock z r))⟩
  case settleTimeReached z r | zoneFaultEntry z r | zoneRecovery z r =>
    exact ⟨_, rfl, event (onlyWhere fun _ => kept (s.sampleZone_interlock z r))⟩
  case windowStart => exact ⟨_, rfl, event sound⟩
  case onTimeEnd => exact ⟨_, rfl, event (onlyWhere fun _ => sound)⟩
  case bridgeSample count => exact ⟨_, rfl, event (kept (s.sampleBridge_interlock count))⟩
  case captureComplete count | tareComplete count | spanComplete count =>
    exact ⟨_, rfl, event (onlyWhere fun _ => kept (s.sampleBridge_interlock count))⟩
  case captureKeyRising level =>
    have same := s.keyRequest_interlock
    exact ⟨_, rfl, edge rfl
      (State.setInputs_sound (kept same) (congrArg Interlock.back same).symm (congrArg Interlock.eStop same).symm)⟩
  case captureTimeout =>
    refine ⟨_, rfl, event ?_⟩
    split
    · split <;> exact sound
    · exact sound
  case eStopRising =>
    refine ⟨_, rfl, edge rfl
      (State.stopCycle_sound (back := s.inputs.ejectAtBack) (eStop := s.inputs.eStop) ?_)⟩
    rw [State.followZones_interlock]
    exact sound
  case eStopFalling =>
    refine ⟨_, rfl, edge rfl
      (State.resumeCycle_sound (back := s.inputs.ejectAtBack) (eStop := s.inputs.eStop) ?_ (by simp))⟩
    rw [State.followZones_interlock]
    exact sound
  case pressClosedRising =>
    refine ⟨_, rfl, edge rfl ?_⟩
    split
    next loading => exact State.beginCure_sound (s := s.setInputs _) (State.atRest sound (by simp [loading]))
    · exact sound
  case pressClosedFalling =>
    refine ⟨_, rfl, edge rfl ?_⟩
    split
    next curing =>
      exact State.stopCure_sound (s := State.markAborted (s.setInputs _) _) (State.atRest sound (by simp [curing]))
    · exact sound
  case closeTimeout =>
    refine ⟨_, rfl, event (onlyWhere fun loading => ?_)⟩
    exact State.leaveLoading_sound (s := (s.closeMoment.markAborted _).post _ _ _) (State.atRest sound (by simp [loading]))
  case cureSecond =>
    refine ⟨_, rfl, event ?_⟩
    split
    · exact sound
    · exact State.cureWork_sound sound ‹_›
  case maximumCureReached =>
    refine ⟨_, rfl, event ?_⟩
    split
    · exact sound
    · exact onlyWhere fun _ => State.cureWork_sound sound ‹_›
  case openOverdue => exact ⟨_, rfl, event (onlyWhere fun _ => sound)⟩
  case pressOpenRising level =>
    exact ⟨_, rfl, edge rfl (State.setInputs_sound
      (State.leaveRelease_sound (s := s.setInputs { s.inputs with pressOpen := true }) sound) (by simp) (by simp))⟩
  case ejectAtFwdRising level =>
    have same : s.forwardReached.inputs = s.inputs := s.forwardReached_inputs
    exact ⟨_, rfl, edge rfl (State.setInputs_sound (State.forwardReached_sound sound) (by simp [same]) (by simp [same]))⟩
  case ejectAtBackRising => exact ⟨_, rfl, edge rfl (State.backReached_sound (State.setBack_sound sound true))⟩
  case ejectAtBackFalling => exact ⟨_, rfl, edge rfl (State.setBack_sound sound false)⟩
  case ejectStall => exact ⟨_, rfl, event (onlyWhere fun extending => State.stall_sound sound extending.2)⟩
  case ejectJam => exact ⟨_, rfl, event (onlyWhere fun retracting => State.jam_sound sound retracting.2)⟩
  case takeoutClearRising level =>
    refine ⟨_, rfl, edge rfl ?_⟩
    split
    next takeout =>
      exact State.setInputs_sound (State.closeCycle_sound (State.atRest sound (by simp [takeout]))) (by simp) (by simp)
    · exact State.setInputs_sound sound rfl rfl
  all_goals cases row

end

/-! ## Every step -/

/-- Settles O55: a view of the state gathers what the two invariants speak of. Most operations leave it alone; the others
enter a state, which drives the permits by R99, or move the ejector, which they do in EJECTING alone. -/
theorem everyStepKeepsThePermits : Obligations.EveryStepKeepsThePermits := by
  intro s t held permits ejector next
  have sound : s.interlocked := s.interlock_sound_iff.2 ⟨permits, ejector⟩
  have still : s.inputs.resetPin = true → s.cycle.state = .noTool := fun pin => by rw [held pin]; rfl
  refine t.interlock_sound_iff.1 ?_
  unfold step at next
  split at next
  · exact Host.Outcome.next.inj next ▸ State.unlessHeld_holds (t := s.elapse 1) (fun _ => sound) sound
  next c rest _ =>
    have kept : ∃ u, exec c (s.setPending rest) = .next u ∧ u.interlocked := by
      cases row : commandRow c with
      | none => exact exec_event_interlocked row sound still
      | some telegram => exact keptByCommands_interlocked.exec_row (s := s.setPending rest) sound row
    obtain ⟨u, done, kept⟩ := kept
    exact Host.Outcome.next.inj (done.symm.trans next) ▸ kept

end Sys2Proof.Machine
end

section
/-! PROOF. START refused (R97): the tests in their order, each with the status it gives, and the statement. -/

namespace Sys2Proof.Machine

/-! ## The force mark (6.3) -/

/-- An empty body carries no force, and a body of one byte the force its byte says. -/
def carriesForce (body : List Byte) (force : Bool) : Prop := body = [] ∧ force = false ∨ body = [flag force]

section
variable {body : List Byte} {force : Bool} (carries : carriesForce body force)
include carries

theorem length_of_carriesForce : body.length ≤ 1 := by
  obtain ⟨rfl, _⟩ | rfl := carries <;> simp

theorem u8_of_carriesForce : u8 body 0 = force.toNat := by
  obtain ⟨rfl, rfl⟩ | rfl := carries
  · rfl
  · cases force <;> rfl

theorem forceOf_of_carriesForce : forceOf body = force := by
  rw [forceOf, u8_of_carriesForce carries]
  cases force <;> rfl

end

/-! ## What START answers -/

section
variable {s : State} {body : List Byte}

theorem startCommand_badLength (length : 2 ≤ body.length) : startCommand body s = .refuse s .badLength := by
  rw [startCommand, decide_eq_false (by omega), Reply.ofLength_false]

theorem startCommand_badValue {b : Byte} (range : 1 < b.toNat) : startCommand [b] s = .refuse s .badValue := by
  simp [startCommand, range]

section
variable {force : Bool} (carries : carriesForce body force)
include carries

theorem startCommand_wrongState (runs : s.cycle.state.waits = false) : startCommand body s = .refuse s .wrongState := by
  have range : ¬1 < u8 body 0 := by simpa [u8_of_carriesForce carries] using force.toNat_le
  simp [startCommand, length_of_carriesForce carries, range, runs]

/-- In STANDBY and READY the first ready reason that refuses decides (R97, tests 4 to 9). -/
theorem startCommand_refused (waits : s.cycle.state.waits = true) {status : Status}
    (refused : startRefusal s.cycle.reasons force = some status) : startCommand body s = .refuse s status := by
  have range : ¬1 < u8 body 0 := by simpa [u8_of_carriesForce carries] using force.toNat_le
  simp [startCommand, length_of_carriesForce carries, range, waits, forceOf_of_carriesForce carries, refused]

end

/-- START accepted and refused by its own rule changes nothing but the answer (R97, R150). -/
theorem exec_start_refused {guard : Byte} (accepted : s.accepts guard) {status : Status}
    (refused : startCommand body s.hunt = .refuse s.hunt status) :
    exec (.start guard body) s = .next (s.answering 0x40 status []) := by
  have taken := s.take_accepts 0x40 guard (startCommand body) accepted
  rw [refused] at taken
  exact congrArg _ taken

end

/-- Settles O39: each clause is one refusal of START's rule, and a refusal leaves every block as it was. -/
theorem startRefusals : Obligations.StartRefusals := by
  intro s guard accepted
  refine ⟨fun body length => ?_, fun b range => ?_, fun body force carries => ⟨fun runs => ?_, fun waits status first => ?_⟩⟩
  · exact exec_start_refused accepted (startCommand_badLength length)
  · exact exec_start_refused accepted (startCommand_badValue range)
  · exact exec_start_refused accepted (startCommand_wrongState carries runs)
  · have refused : startRefusal s.cycle.reasons force = some status := by
      rw [← first, startRefusal]
      cases force <;> simp
    exact exec_start_refused accepted (startCommand_refused (s := s.hunt) carries waits refused)

end Sys2Proof.Machine
end

section
/-! PROOF. Rates and required doses (R112, R113, R116): the segment that holds a temperature, the excess of a charge, and
the statement. -/

namespace Sys2Proof.Machine

/-! ## The rate of a governing temperature (R116) -/

/-- Within a segment the floored interpolation is no less than 0, as the rates at both ends are. -/
theorem segmentRate_nonneg {a b : RatePoint} {x : Int} (above : a.temp ≤ x) (below : x < b.temp) :
    0 ≤ segmentRate a b x := by
  have weighed : -(a.rate : Int) * (b.temp - a.temp) ≤ ((b.rate : Int) - a.rate) * (x - a.temp) := by
    have upper : 0 ≤ (b.rate : Int) * (x - a.temp) := mul_nonneg (by omega) (by omega)
    have lower : 0 ≤ (a.rate : Int) * (b.temp - x) := mul_nonneg (by omega) (by omega)
    linarith
  have floored := Int.le_ediv_of_mul_le (by omega : 0 < b.temp - a.temp) weighed
  rw [segmentRate, Int.fdiv_eq_ediv_of_nonneg _ (by omega)]
  omega

/-- Along points that rise strictly, a temperature gets the rate of the segment that holds it. -/
theorem rateAlong_eq_segmentRate {x : Int} {l : List RatePoint} (rising : l.Pairwise (·.temp < ·.temp)) {k : Nat}
    (inside : k + 1 < l.length) (above : l[k].temp ≤ x) (below : x < l[k + 1].temp) :
    rateAlong x l = segmentRate l[k] l[k + 1] x := by
  induction l generalizing k with
  | nil => exact absurd inside (Nat.not_lt_zero _)
  | cons a rest ih =>
    obtain ⟨-, later⟩ := List.pairwise_cons.1 rising
    match rest with
    | [] => simp at inside
    | b :: rest =>
      cases k with
      | zero => exact if_pos ⟨above, below⟩
      | succ k =>
        have inside : k + 1 < (b :: rest).length := Nat.lt_of_succ_lt_succ inside
        have passed : b.temp ≤ (b :: rest)[k].temp := by
          cases k with
          | zero => exact le_rfl
          | succ k => exact ((List.pairwise_cons.1 later).1 _ (List.getElem_mem _)).le
        have beyond : ¬(a.temp ≤ x ∧ x < b.temp) := fun inFirst => absurd (passed.trans above) (not_le.2 inFirst.2)
        rw [rateAlong, if_neg beyond]
        exact ih later inside above below

/-- In a table that rises strictly, a temperature within a segment has the floored interpolation (R116). -/
theorem rateFor_within {t : RateTable} (rising : ∀ i j : Fin 16, i < j → t[i].temp < t[j].temp) {x : Int} (k : Fin 15)
    (above : t[k.castSucc].temp ≤ x) (below : x < t[k.succ].temp) :
    (rateFor t x : Int) = segmentRate t[k.castSucc] t[k.succ] x := by
  have steady (i j : Fin 16) (le : i ≤ j) : t[i].temp ≤ t[j].temp := by
    obtain rfl | lt := eq_or_lt_of_le le
    · exact le_rfl
    · exact (rising i j lt).le
  have first : ¬x < t[0].temp := not_lt.2 ((steady 0 k.castSucc (Fin.zero_le _)).trans above)
  have last : ¬t[15].temp ≤ x := not_le.2 (below.trans_le (steady k.succ (Fin.last 15) (Fin.le_last _)))
  have pairwise : t.toList.Pairwise (·.temp < ·.temp) := by
    refine List.pairwise_iff_getElem.2 fun i j hi hj lt => ?_
    simpa using rising ⟨i, by simpa using hi⟩ ⟨j, by simpa using hj⟩ lt
  have along : rateAlong x t.toList = segmentRate t[k.castSucc] t[k.succ] x := by
    have inside : k.val + 1 < t.toList.length := by rw [Vector.length_toList]; omega
    simpa using rateAlong_eq_segmentRate pairwise inside (by simpa using above) (by simpa using below)
  rw [rateFor, if_neg first, if_neg last, along, Int.toNat_of_nonneg (segmentRate_nonneg above below)]

/-! ## The required dose (R112, R113) -/

/-- A charge at or below its target has no excess. -/
theorem excess_of_le {mass target : Nat} (light : mass ≤ target) : excess mass target = 0 := by
  have flipped : ((mass : Int) - target) * 1000 = -(((target : Int) - mass) * 1000) := by ring
  have missing : 0 ≤ (((target : Int) - mass) * 1000).tdiv target := Int.tdiv_nonneg (by omega) (by omega)
  rw [excess, flipped, Int.neg_tdiv]
  omega

/-- A charge at or above its target has its permille above it as excess, up to 200. -/
theorem excess_of_ge {mass target : Nat} (heavy : target ≤ mass) :
    excess mass target = (min 200 ((mass - target) * 1000 / target) : Nat) := by
  have permille : ((((mass : Int) - target) * 1000).tdiv target) = ((mass - target) * 1000 / target : Nat) := by
    rw [← Int.ofNat_sub heavy]
    exact Int.ofNat_tdiv _ _
  rw [excess, permille]
  generalize (mass - target) * 1000 / target = q
  omega

/-- A charge for a cavity that the recipe has an entry for needs the dose of that entry's target. -/
theorem Recipe.requiredFor_of_entry {r : Recipe} {e : ChargeEntry} {c : CavityEntry}
    (entry : r.cavities[e.cavity - 1]? = some c) :
    r.requiredFor e = requiredDose r.baseDose r.massGain e.mass c.target := by
  simp [Recipe.requiredFor, entry]

/-- Settles O45: below the first point and from the last on the rate is the table's by definition; in between the points
that rise strictly single out one segment. The excess is 0 up to the target and the clamped permille from it on. -/
theorem ratesAndDoses : Obligations.RatesAndDoses := by
  refine ⟨fun t x => ⟨fun low => if_pos low, fun first last => ?_, fun rising k above below => ?_⟩,
    fun r e c entry _ => ⟨fun light => ?_, fun heavy => ?_⟩⟩
  · rw [rateFor, if_neg (not_lt.2 first), if_pos last]
  · rw [rateFor_within rising k above below, segmentRate, Int.fdiv_eq_ediv_of_nonneg _ (by omega)]
  · simp [Recipe.requiredFor_of_entry entry, requiredDose, excess_of_le light]
  · rw [Recipe.requiredFor_of_entry entry, requiredDose, excess_of_ge heavy, Int.toNat_natCast]

end Sys2Proof.Machine
end

section
/-! PROOF. What the cure's invariant speaks of (R111, R123): a view of the state that gathers it, when the view is sound,
and which changes keep it so. -/

namespace Sys2Proof.Machine

/-! ## The view -/

/-- The phase the integrator has in a cycle state (R111). -/
def CycleState.curePhase : CycleState → CurePhase
  | .noTool | .standby | .ready => .idle
  | .loading => .pending
  | .curing => .accumulating
  | .release | .ejecting | .takeout => .ended

/-- What the invariant reads of a part record. -/
structure Dosage where
  opened : Bool
  outcome : PartOutcome
  cavities : List RecordCavity

/-- What the invariant reads of the state: the integrator, the phase its cycle state calls for, and the records. -/
structure Dosing where
  cure : Cure
  called : CurePhase
  records : List Dosage

def PartRecord.dosage (r : PartRecord) : Dosage := ⟨r.opened, r.outcome, r.cavities⟩

@[simp] theorem PartRecord.dosage_opened (r : PartRecord) : r.dosage.opened = r.opened := rfl

def Ring.dosages (r : Ring) : List Dosage := r.records.map (·.dosage)

/-- The view of a state. -/
def State.dosing (s : State) : Dosing := ⟨s.cure, s.cycle.state.curePhase, s.ring.dosages⟩

/-- A record whose outcome is GOOD has every required dose achieved (R123). -/
def Dosage.Reached (d : Dosage) : Prop := d.outcome = .good → ∀ c ∈ d.cavities, c.required ≤ c.achieved

/-- What the integrator's phase asks of an OPEN record: there is none in IDLE; until the cure is over it requires the
integrator's doses; afterwards they are reached if it is GOOD. -/
def Dosage.Fits (d : Dosage) (cure : Cure) : Prop :=
  match cure.phase with
  | .idle => False
  | .pending | .accumulating => d.cavities.map (·.required) = cure.cavities.map (·.required)
  | .ended => d.Reached

section
variable {d : Dosage} {cure : Cure}

theorem Dosage.not_fits_idle (phase : cure.phase = .idle) : ¬d.Fits cure := by
  simp only [Dosage.Fits, phase, not_false_iff]

theorem Dosage.fits_pending_iff (phase : cure.phase = .pending) :
    d.Fits cure ↔ d.cavities.map (·.required) = cure.cavities.map (·.required) := by simp only [Dosage.Fits, phase]

theorem Dosage.fits_accumulating_iff (phase : cure.phase = .accumulating) :
    d.Fits cure ↔ d.cavities.map (·.required) = cure.cavities.map (·.required) := by simp only [Dosage.Fits, phase]

theorem Dosage.fits_ended_iff (phase : cure.phase = .ended) : d.Fits cure ↔ d.Reached := by
  simp only [Dosage.Fits, phase]

end

namespace Dosing

/-- Every CLOSED record that is GOOD has its doses. -/
def Closed (v : Dosing) : Prop := ∀ d ∈ v.records, d.opened = false → d.Reached

/-- Every record that is GOOD has its doses, the OPEN one too. -/
def AllReached (v : Dosing) : Prop := ∀ d ∈ v.records, d.Reached

/-- Every record is CLOSED, and has its doses if it is GOOD. -/
def Shut (v : Dosing) : Prop := ∀ d ∈ v.records, d.opened = false ∧ d.Reached

/-- The cure is over, and every record that is GOOD has its doses. -/
structure Ended (v : Dosing) : Prop where
  phase : v.cure.phase = .ended
  reached : v.AllReached

/-- The view is sound. -/
structure Sound (v : Dosing) : Prop where
  phase : v.cure.phase = v.called
  closed : v.Closed
  opened : ∀ d ∈ v.records, d.opened = true → d.Fits v.cure

/-- Each OPEN record is written, and no other (R141). -/
def writeOpen (v : Dosing) (f : Dosage → Dosage) : Dosing :=
  { v with records := v.records.map (fun d => if d.opened then f d else d) }

/-- The open record takes an outcome. -/
def settle (v : Dosing) (o : PartOutcome) : Dosing := v.writeOpen (fun d => { d with outcome := o })

/-- The open record takes the doses, and the integrator is ENDED. -/
def finish (v : Dosing) : Dosing :=
  { v with cure := { v.cure with phase := .ended } }.writeOpen
    (fun d => { d with cavities := writeDoses d.cavities v.cure.cavities })

/-- The open record is closed. -/
def close (v : Dosing) : Dosing := v.writeOpen (fun d => { d with opened := false })

end Dosing

/-! ## The view and the invariant -/

theorem CycleState.eq_curePhase_iff (st : CycleState) (p : CurePhase) : p = st.curePhase ↔
    (p = .idle ↔ st.running = false) ∧ (p = .pending ↔ st = .loading) ∧ (p = .accumulating ↔ st = .curing) := by
  cases st <;> cases p <;> decide

/-- The integrator is IDLE in STANDBY and READY. -/
theorem CycleState.curePhase_of_waits {st : CycleState} (waits : st.waits = true) : st.curePhase = .idle := by
  revert waits
  cases st <;> decide

theorem State.dosing_records_iff {s : State} {P : Dosage → Prop} :
    (∀ d ∈ s.dosing.records, P d) ↔ ∀ r ∈ s.ring.records, P r.dosage := List.forall_mem_map

/-- The invariant makes the view sound, since the ring holds an OPEN record in the running states alone. -/
theorem State.dosing_sound {s : State} (ring : RingInv s) (cure : CureInv s) : s.dosing.Sound where
  phase := (s.cycle.state.eq_curePhase_iff _).2 ⟨cure.idle, cure.pending, cure.accumulating⟩
  closed := State.dosing_records_iff.2 cure.closed
  opened := by
    refine State.dosing_records_iff.2 fun r held opened => ?_
    cases phase : s.cure.phase with
    | idle =>
      have none : s.ring.records.any (·.opened) = false := ring.running.trans (cure.idle.1 phase)
      exact absurd opened (List.any_eq_false.1 none r held)
    | pending => exact (Dosage.fits_pending_iff phase).2 (cure.required (.inl (cure.pending.1 phase)) r held opened)
    | accumulating =>
      exact (Dosage.fits_accumulating_iff phase).2 (cure.required (.inr (cure.accumulating.1 phase)) r held opened)
    | ended => exact (Dosage.fits_ended_iff phase).2 (cure.ended phase r held)

theorem State.cureInv_of_dosing_sound {s : State} (sound : s.dosing.Sound) : CureInv s := by
  obtain ⟨idle, pending, accumulating⟩ := (s.cycle.state.eq_curePhase_iff s.cure.phase).1 sound.phase
  have closed := State.dosing_records_iff.1 sound.closed
  have opened : ∀ r ∈ s.ring.records, r.opened = true → r.dosage.Fits s.cure :=
    State.dosing_records_iff.1 sound.opened
  refine ⟨idle, pending, accumulating, fun state r held isOpen => ?_, closed, fun ended r held => ?_⟩
  · have fits := opened r held isOpen
    obtain loading | curing := state
    · exact (Dosage.fits_pending_iff (pending.2 loading)).1 fits
    · exact (Dosage.fits_accumulating_iff (accumulating.2 curing)).1 fits
  · cases isOpen : r.opened
    · exact closed r held isOpen
    · exact (Dosage.fits_ended_iff ended).1 (opened r held isOpen)

/-! ## What keeps the view sound -/

/-- Doses written for cavities that all have theirs reach what is required (R121, R123). -/
theorem required_le_achieved_writeDoses {cs : List RecordCavity} {ds : List CavityCure}
    (same : cs.map (·.required) = ds.map (·.required)) (met : ∀ d ∈ ds, d.required ≤ d.dose) :
    ∀ c ∈ writeDoses cs ds, c.required ≤ c.achieved := by
  induction cs generalizing ds with
  | nil => cases ds <;> nofun
  | cons c cs ih =>
    cases ds with
    | nil => cases same
    | cons d ds =>
      obtain ⟨head, tail⟩ := List.cons.inj same
      obtain ⟨first, rest⟩ := List.forall_mem_cons.1 met
      exact List.forall_mem_cons.2 ⟨head.trans_le first, ih tail rest⟩

namespace Dosing

variable {v : Dosing}

theorem forall_writeOpen {f : Dosage → Dosage} {P : Dosage → Prop} :
    (∀ d ∈ (v.writeOpen f).records, P d) ↔ ∀ d ∈ v.records, P (if d.opened then f d else d) := List.forall_mem_map

/-- A write after which each OPEN record has its doses, if it is GOOD. -/
theorem Closed.reached_writeOpen (closed : v.Closed) {f : Dosage → Dosage}
    (opened : ∀ d ∈ v.records, d.opened = true → (f d).Reached) : (v.writeOpen f).AllReached := by
  refine forall_writeOpen.2 fun d held => ?_
  split
  next isOpen => exact opened d held isOpen
  next isClosed => exact closed d held (by simpa using isClosed)

/-- A write that leaves the OPEN record open leaves the CLOSED ones alone. -/
theorem Closed.writeOpen (closed : v.Closed) {f : Dosage → Dosage} (keeps : ∀ d, (f d).opened = d.opened) :
    (v.writeOpen f).Closed := by
  refine forall_writeOpen.2 fun d held => ?_
  split
  next isOpen => exact fun isClosed => absurd (isOpen.symm.trans (keeps d).symm) (by simp [isClosed])
  · exact closed d held

/-- A record that is not GOOD needs no doses. -/
theorem Closed.reached_settle (closed : v.Closed) {o : PartOutcome} (bad : o ≠ .good) : (v.settle o).AllReached :=
  closed.reached_writeOpen fun _ _ _ good => absurd good bad

theorem Closed.finish (closed : v.Closed) : v.finish.Closed := Closed.writeOpen closed fun _ => rfl

/-- A cure that ends early leaves a record that is not GOOD (R122). -/
theorem Closed.ended_finish_settle (closed : v.Closed) {o : PartOutcome} (bad : o ≠ .good) :
    (v.settle o).finish.Ended where
  phase := rfl
  reached := by
    have settled : (v.settle o).Closed := Closed.writeOpen closed fun _ => rfl
    refine Closed.reached_writeOpen settled (forall_writeOpen.2 fun d _ => ?_)
    split
    · exact fun _ good => absurd good bad
    next isClosed => exact fun isOpen => absurd isOpen isClosed

/-- A cure that ends with every dose met leaves a record that has them (R121). -/
theorem Sound.ended_finish (sound : v.Sound) (accumulating : v.called = .accumulating)
    (met : ∀ c ∈ v.cure.cavities, c.required ≤ c.dose) : v.finish.Ended where
  phase := rfl
  reached := by
    have phase := sound.phase.trans accumulating
    refine Closed.reached_writeOpen sound.closed fun d held isOpen _ => ?_
    exact required_le_achieved_writeDoses ((Dosage.fits_accumulating_iff phase).1 (sound.opened d held isOpen)) met

/-- Once the cure is over every record that is GOOD has its doses. -/
theorem Sound.ended (sound : v.Sound) (called : v.called = .ended) : v.Ended where
  phase := sound.phase.trans called
  reached d held := by
    cases isOpen : d.opened
    · exact sound.closed d held isOpen
    · exact (Dosage.fits_ended_iff (sound.phase.trans called)).1 (sound.opened d held isOpen)

/-- A cure that is over may leave its cycle in RELEASE, EJECTING or TAKEOUT. -/
theorem Ended.sound (ended : v.Ended) : { v with called := .ended }.Sound where
  phase := ended.phase
  closed d held _ := ended.reached d held
  opened d held _ := (Dosage.fits_ended_iff ended.phase).2 (ended.reached d held)

theorem Ended.settle (ended : v.Ended) {o : PartOutcome} (bad : o ≠ .good) : (v.settle o).Ended :=
  ⟨ended.phase, Closed.reached_settle (fun d held _ => ended.reached d held) bad⟩

theorem AllReached.close (reached : v.AllReached) : v.close.Shut := by
  refine forall_writeOpen.2 fun d held => ?_
  split
  · exact ⟨rfl, reached d held⟩
  next isClosed => exact ⟨by simpa using isClosed, reached d held⟩

/-- Between cycles no record is OPEN. -/
theorem Sound.shut (sound : v.Sound) (idle : v.called = .idle) : v.Shut := by
  intro d held
  have isClosed : d.opened = false :=
    Bool.eq_false_iff.2 fun isOpen => Dosage.not_fits_idle (sound.phase.trans idle) (sound.opened d held isOpen)
  exact ⟨isClosed, sound.closed d held isClosed⟩

/-- With every record CLOSED the cleared integrator is sound between cycles. -/
theorem Shut.sound (shut : v.Shut) : (⟨Cure.reset, .idle, v.records⟩ : Dosing).Sound where
  phase := rfl
  closed d held _ := (shut d held).2
  opened d held isOpen := absurd isOpen (by simp [(shut d held).1])

/-- A new cycle opens a record that requires the integrator's doses (R113). -/
theorem Shut.start (shut : v.Shut) {cure : Cure} {d : Dosage} (pending : cure.phase = .pending) (isOpen : d.opened = true)
    (same : d.cavities.map (·.required) = cure.cavities.map (·.required)) :
    (⟨cure, .pending, v.records ++ [d]⟩ : Dosing).Sound where
  phase := pending
  closed := List.forall_mem_append.2
    ⟨fun e held _ => (shut e held).2, List.forall_mem_singleton.2 fun isClosed => absurd isOpen (by simp [isClosed])⟩
  opened := List.forall_mem_append.2
    ⟨fun e held isOpen => absurd isOpen (by simp [(shut e held).1]),
      List.forall_mem_singleton.2 fun _ => (Dosage.fits_pending_iff pending).2 same⟩

/-- The press has closed, and the cure begins (R114). -/
theorem Sound.begin (sound : v.Sound) (pending : v.called = .pending) :
    { v with cure := { v.cure with phase := .accumulating }, called := .accumulating }.Sound where
  phase := rfl
  closed := sound.closed
  opened d held isOpen := by
    have same := (Dosage.fits_pending_iff (sound.phase.trans pending)).1 (sound.opened d held isOpen)
    exact (Dosage.fits_accumulating_iff rfl).2 same

/-- The integrator may go on while its phase and its required doses stay. -/
theorem Sound.advance (sound : v.Sound) {cure : Cure} (phase : cure.phase = v.cure.phase)
    (same : cure.cavities.map (·.required) = v.cure.cavities.map (·.required)) : { v with cure := cure }.Sound where
  phase := phase.trans sound.phase
  closed := sound.closed
  opened d held isOpen := by simpa only [Dosage.Fits, phase, same] using sound.opened d held isOpen

/-- Records may leave the ring (R146). -/
theorem Sound.release (sound : v.Sound) {ds : List Dosage} (sub : ds ⊆ v.records) : { v with records := ds }.Sound where
  phase := sound.phase
  closed d held := sound.closed d (sub held)
  opened d held := sound.opened d (sub held)

end Dosing

end Sys2Proof.Machine
end

section
/-! PROOF. What each operation does to the integrator's phase and the records: most leave the view alone, and the rest write
the open record or move the cycle to a state in which the integrator has another phase. -/

namespace Sys2Proof.Machine

variable (s : State)

/-- The view reads the integrator, the cycle state and the ring, and no more. -/
theorem State.dosing_congr {s t : State} (cure : t.cure = s.cure) (cycle : t.cycle.state = s.cycle.state)
    (ring : t.ring = s.ring) : t.dosing = s.dosing := by
  simp only [State.dosing, cure, cycle, ring]

/-! ## The open record -/

/-- A write to the open record, as the view has it. -/
theorem State.updateOpen_dosing {f : PartRecord → PartRecord} {g : Dosage → Dosage}
    (same : ∀ r, (f r).dosage = g r.dosage) : (s.updateOpen f).dosing = s.dosing.writeOpen g := by
  have written : (s.updateOpen f).ring.dosages = (s.dosing.writeOpen g).records := by
    simp only [Ring.dosages, State.updateOpen_records, Dosing.writeOpen, State.dosing, List.map_map]
    refine List.map_congr_left fun r _ => ?_
    cases isOpen : r.opened <;> simp [isOpen, same]
  rw [State.dosing, written]
  rfl

/-- A write that leaves what the view has of a record. -/
theorem State.updateOpen_dosing_same {f : PartRecord → PartRecord} (same : ∀ r, (f r).dosage = r.dosage) :
    (s.updateOpen f).dosing = s.dosing := by
  rw [s.updateOpen_dosing (g := id) same]
  simp [Dosing.writeOpen]

@[simp] theorem State.addFault_dosing (c : FaultCode) : (s.addFault c).dosing = s.dosing :=
  s.updateOpen_dosing_same fun _ => rfl

@[simp] theorem State.addFaultIf_dosing (b : Bool) (c : FaultCode) : (s.addFaultIf b c).dosing = s.dosing := by
  cases b
  · rfl
  · exact s.addFault_dosing c

theorem State.setOutcome_dosing (o : PartOutcome) : (s.setOutcome o).dosing = s.dosing.settle o :=
  s.updateOpen_dosing fun _ => rfl

@[simp] theorem State.markAborted_dosing (c : FaultCode) : (s.markAborted c).dosing = s.dosing.settle .aborted := by
  rw [State.markAborted, State.setOutcome_dosing, State.addFault_dosing]

/-- Strokes and retries are no part of the view (R136). -/
@[simp] theorem State.recordStrokes_dosing (strokes retries : Nat) :
    (s.updateOpen fun r => { r with strokes := strokes, retries := retries }).dosing = s.dosing :=
  s.updateOpen_dosing_same fun _ => rfl

theorem State.endCure_dosing : s.endCure.dosing = s.dosing.finish :=
  State.updateOpen_dosing (s.setCure { s.cure with phase := .ended }) fun _ => rfl

/-- The close of a record leaves the integrator and the state of the cycle (R143). -/
@[simp] theorem State.closeRecord_dosing : s.closeRecord.dosing = s.dosing.close := by
  have cycle : s.closeRecord.cycle.state = s.cycle.state := by
    obtain ⟨_, same⟩ | ⟨_, _, _, cycle, _⟩ := s.closeRecord_cases
    · rw [same]
    · rw [cycle]
  have written : (s.updateOpen fun q => { q with opened := false, takeoutTime := some s.clocks.part }).dosing
      = s.dosing.close := s.updateOpen_dosing fun _ => rfl
  rw [← written]
  exact State.dosing_congr (by simp) cycle s.closeRecord_ring

/-! ## The cycle controller and the zones -/

@[simp] theorem State.enter_dosing (st : CycleState) : (s.enter st).dosing = { s.dosing with called := st.curePhase } := rfl

/-- STANDBY and READY are alike: the integrator is IDLE in both. -/
@[simp] theorem State.evaluate_dosing : s.evaluate.dosing = s.dosing := by
  cases waits : s.cycle.state.waits
  · rw [s.evaluate_other waits]
  · have idle := CycleState.curePhase_of_waits waits
    have either : (if s.conditions.isNone then CycleState.ready else .standby).curePhase = .idle := by split <;> rfl
    rw [s.evaluate_waits waits]
    simp only [State.dosing, State.setCycle_cycle, State.setCycle_cure, State.setCycle_ring, idle, either]

@[simp] theorem State.applyZones_dosing (f : ZoneIx → ZoneStep → ZoneStep) : (s.applyZones f).dosing = s.dosing :=
  State.dosing_congr (by simp) (by simp) (by simp)

@[simp] theorem State.followZones_dosing : s.followZones.dosing = s.dosing := s.applyZones_dosing _

@[simp] theorem State.setWorkings_dosing : s.setWorkings.dosing = s.dosing := s.applyZones_dosing _

@[simp] theorem State.applyZone_dosing (z : ZoneIx) (f : ZoneStep → ZoneStep) : (s.applyZone z f).dosing = s.dosing := by
  obtain ⟨e, _⟩ | ⟨e, _⟩ := s.applyZone_cases z f <;> rw [e]
  · exact State.dosing_congr (by simp) (by simp) (by simp)
  · rw [State.evaluate_dosing]
    exact State.dosing_congr (by simp) (by simp) (by simp)

@[simp] theorem State.sampleZone_dosing (z : ZoneIx) (r : Reading) : (s.sampleZone z r).dosing = s.dosing :=
  (s.zoneMoment z).applyZone_dosing z _

@[simp] theorem State.configureZone_dosing (z : ZoneIx) (c : ZoneConfig) : (s.configureZone z c).dosing = s.dosing := by
  rw [State.configureZone, State.applyZone_dosing]

@[simp] theorem State.setMaster_dosing (on : Bool) : (s.setMaster on).dosing = s.dosing := by
  unfold State.setMaster
  split
  · rfl
  · rw [State.evaluate_dosing, State.followZones_dosing]
    rfl

@[simp] theorem State.promoteMounted_dosing : s.promoteMounted.dosing = s.dosing :=
  State.dosing_congr (by simp) (by simp) (by simp)

@[simp] theorem State.dispose_dosing (i : SlotIx) : (s.dispose i).dosing = s.dosing := by
  unfold State.dispose
  split
  · rfl
  · split
    · simp
    · exact State.dosing_congr (by simp) (by simp) (by simp)

/-! ## The queue, the ring and the scale -/

@[simp] theorem State.changeQueue_dosing (q : List ChargeEntry) : (s.changeQueue q).dosing = s.dosing := by
  obtain ⟨e, _⟩ | e := s.changeQueue_cases q <;> rw [e]
  · rfl
  · exact (s.setQueue q).evaluate_dosing

@[simp] theorem State.changeRing_dosing (r : Ring) : (s.changeRing r).dosing = { s.dosing with records := r.dosages } := by
  obtain ⟨e, _⟩ | e := s.changeRing_cases r <;> rw [e]
  · rfl
  · exact (s.setRing r).evaluate_dosing

theorem State.captureOutcome_dosing (p : Snapshot) : (s.captureOutcome p).dosing = s.dosing := by
  unfold State.captureOutcome
  split
  · rfl
  · split
    · rfl
    · exact State.changeQueue_dosing (s.setScale _) _

theorem State.actOnCapture_dosing (before : LoadState) (c : Int) : (s.actOnCapture before c).dosing = s.dosing := by
  unfold State.actOnCapture
  split
  · rfl
  · split
    · rfl
    · split
      · exact s.captureOutcome_dosing _
      · rfl
  · split <;> rfl
  · split
    · rfl
    · exact State.dosing_congr (by simp) (by simp) (by simp)

@[simp] theorem State.sampleBridge_dosing (count : BitVec 24) : (s.sampleBridge count).dosing = s.dosing :=
  State.actOnCapture_dosing (s.bridgeMoment.setScale _) _ _

theorem State.expire_dosing : s.expire.dosing = s.dosing := by
  rw [State.expire, State.changeQueue_dosing]
  exact List.foldlRecOn _ _ (motive := fun t : State => t.dosing = s.dosing) rfl fun _ same _ _ => same

@[simp] theorem State.advanceSecond_dosing : s.advanceSecond.dosing = s.dosing := by
  unfold State.advanceSecond
  dsimp only
  split
  · rfl
  · exact State.expire_dosing (s.secondMoment.setClocks _)

theorem State.failCapture_dosing (p : Snapshot) : (s.captureMoment.failCapture p).dosing = s.dosing :=
  State.dosing_congr (by simp) (by simp) (by simp)

theorem State.keyRequest_dosing : s.keyRequest.dosing = s.dosing := by
  unfold State.keyRequest
  split
  · rfl
  · split <;> rfl

/-! ## The cure second (R114) -/

/-- A cure second leaves the required doses. -/
theorem State.map_required_advanceCavities (table : RateTable) (cs : List CavityCure) (zs : List ZoneSet) :
    (s.advanceCavities table cs zs).map (·.required) = cs.map (·.required) := by
  induction cs generalizing zs with
  | nil => cases zs <;> rfl
  | cons c cs ih =>
    cases zs with
    | nil => rfl
    | cons z zs =>
      have kept : (c.advanced table (s.governing z)).required = c.required := by
        cases governing : s.governing z <;> rfl
      simp [State.advanceCavities, kept, ih]

/-- The doses of a cure second are the integrator's alone, and the faults it finds are no part of the view (R117 to
R120). -/
theorem State.judged_dosing (t : Tool) (r : Recipe) :
    ((s.accumulate t r).judgeZones t).dosing = { s.dosing with cure := (s.accumulate t r).cure } := by
  rw [State.judgeZones, State.addFaultIf_dosing, State.addFaultIf_dosing, State.addFaultIf_dosing]
  exact State.updateOpen_dosing_same (s.setCure _) fun _ => rfl

/-! ## The press cycle -/

/-- START opens a record that requires the integrator's doses (R98, R113). -/
theorem State.startCycle_dosing (i : SlotIx) (t : Tool) (r : Recipe) (n : Nat) (taken left : List ChargeEntry) :
    (s.startCycle i t r n taken left).dosing
      = ⟨Cure.pendingFor r taken, .pending, s.dosing.records ++ [⟨true, .good, taken.map (·.recorded r)⟩]⟩ := by
  simp [State.startCycle, State.dosing, Ring.dosages, PartRecord.dosage, State.newRecord, CycleState.curePhase,
    State.enter_cycle]

theorem State.beginCure_dosing : s.beginCure.dosing
    = { s.dosing with cure := { s.cure with phase := .accumulating }, called := .accumulating } := by
  have timed : (s.updateOpen fun r => { r with closeTime := some s.clocks.part }).dosing = s.dosing :=
    s.updateOpen_dosing_same fun _ => rfl
  rw [← timed]
  rfl

/-- RELEASE and EJECTING are alike: the cure is over. -/
@[simp] theorem State.leaveRelease_dosing : s.leaveRelease.dosing = s.dosing := by
  obtain ⟨release, _, _, e⟩ | ⟨_, e⟩ := s.leaveRelease_cases <;> rw [e]
  have ended : s.dosing.called = .ended := congrArg CycleState.curePhase release
  exact congrArg (Dosing.mk s.cure · s.ring.dosages) ended.symm

theorem State.enterRelease_dosing : s.enterRelease.dosing = { s.dosing with called := .ended } := by
  have timed : (s.updateOpen fun r => { r with releaseTime := some s.clocks.part }).dosing = s.dosing :=
    s.updateOpen_dosing_same fun _ => rfl
  rw [State.enterRelease, State.leaveRelease_dosing, ← timed]
  rfl

theorem State.stopCure_dosing : s.stopCure.dosing = { s.dosing.finish with called := .ended } := by
  rw [State.stopCure, State.enterRelease_dosing, State.endCure_dosing]

theorem State.postOverdue_dosing : s.postOverdue.dosing = s.dosing := rfl

theorem State.jam_dosing : s.jam.dosing = s.dosing := (s.strokeMoment.setEjector _).addFault_dosing _

theorem State.closeCycle_dosing : s.closeCycle.dosing = ⟨Cure.reset, .idle, s.dosing.close.records⟩ := by
  rw [State.closeCycle, State.evaluate_dosing, State.enter_dosing, State.promoteMounted_dosing, ← s.closeRecord_dosing]
  rfl

/-! ## RESTART (R109) -/

@[simp] theorem State.restartNotices_dosing : s.restartNotices.dosing = s.dosing := rfl

/-- RESTART clears the integrator, and the records stay as it has left them. -/
theorem State.restartUnmount_dosing : s.restartUnmount.dosing = ⟨Cure.reset, .idle, s.dosing.records⟩ := by
  rw [State.restartUnmount, State.enter_dosing, State.setWorkings_dosing]
  simp [State.dosing, CycleState.curePhase]

end Sys2Proof.Machine
end

section
/-! PROOF. The transitions of a press cycle keep the cure sound (R100 to R109, R121 to R124, R134 to R136). -/

namespace Sys2Proof.Machine

/-- The view of a state is sound. -/
def State.cureSound (s : State) : Prop := s.dosing.Sound

variable {s : State}

/-- What leaves the view alone keeps it sound. -/
theorem State.cureSound_of_eq {t : State} (sound : s.cureSound) (same : t.dosing = s.dosing) : t.cureSound := by
  rwa [State.cureSound, same]

/-- The phase the integrator has, by the state of the cycle. -/
theorem State.called_eq {st : CycleState} (state : s.cycle.state = st) : s.dosing.called = st.curePhase :=
  congrArg CycleState.curePhase state

/-- Between cycles the integrator is IDLE. -/
theorem State.called_idle (idle : s.cycle.state.running = false) : s.dosing.called = .idle :=
  ((s.cycle.state.eq_curePhase_iff _).1 rfl).1.2 idle

/-! ## The end of a cure and of a cycle -/

theorem State.closeCycle_cureSound (reached : s.dosing.AllReached) : s.closeCycle.cureSound := by
  rw [State.cureSound, State.closeCycle_dosing]
  exact reached.close.sound

/-- TAKEOUT is entered with the cure over, and may be left at once (R104). -/
theorem State.enterTakeout_cureSound (ended : s.dosing.Ended) : s.enterTakeout.cureSound := by
  obtain ⟨_, e⟩ | ⟨_, e⟩ := s.enterTakeout_cases <;> rw [e]
  · exact ended.sound
  · exact State.closeCycle_cureSound (s := s.enter .takeout) ended.reached

/-- A cycle that leaves LOADING has no cure, so its record must not stay GOOD (R124). -/
theorem State.leaveLoading_cureSound (reached : s.dosing.AllReached) : s.leaveLoading.cureSound :=
  State.enterTakeout_cureSound (s := s.endPending) ⟨rfl, reached⟩

theorem State.stopCure_cureSound (ended : s.dosing.finish.Ended) : s.stopCure.cureSound := by
  rw [State.cureSound, State.stopCure_dosing]
  exact ended.sound

theorem State.beginCure_cureSound (sound : s.cureSound) (loading : s.cycle.state = .loading) : s.beginCure.cureSound := by
  rw [State.cureSound, State.beginCure_dosing]
  exact sound.begin (State.called_eq loading)

/-! ## The marks of an early end (R100, R101, R105, R106) -/

theorem State.abortLoading_cureSound (sound : s.cureSound) (c : FaultCode) :
    (s.markAborted c).leaveLoading.cureSound := by
  refine State.leaveLoading_cureSound ?_
  rw [State.markAborted_dosing]
  exact sound.closed.reached_settle (by decide)

theorem State.abortCuring_cureSound (sound : s.cureSound) (c : FaultCode) : (s.markAborted c).stopCure.cureSound := by
  refine State.stopCure_cureSound ?_
  rw [State.markAborted_dosing]
  exact sound.closed.ended_finish_settle (by decide)

theorem State.abortRelease_cureSound (sound : s.cureSound) (release : s.cycle.state = .release) (c : FaultCode) :
    (s.markAborted c).cureSound := by
  have called : s.dosing.called = .ended := State.called_eq release
  have ended := ((sound.ended called).settle (o := .aborted) (by decide)).sound
  have same : { s.dosing.settle .aborted with called := .ended } = s.dosing.settle .aborted := by rw [← called]; rfl
  rw [State.cureSound, State.markAborted_dosing, ← same]
  exact ended

/-! ## The release decision (R121) -/

/-- A cure ends GOOD with every dose met, and else UNDERCURED. -/
theorem State.decideRelease_cureSound (sound : s.cureSound) (accumulating : s.dosing.called = .accumulating) (r : Recipe) :
    (s.decideRelease r).cureSound := by
  unfold State.decideRelease
  split
  next done =>
    have met : ∀ c ∈ s.cure.cavities, c.required ≤ c.dose := by simpa [CavityCure.met] using done.1
    exact State.stopCure_cureSound (s := s.post _ _ _) (sound.ended_finish accumulating met)
  · split
    · refine State.stopCure_cureSound (s := ((s.addFault _).setOutcome _).post _ _ _) ?_
      show ((s.addFault _).setOutcome .undercured).dosing.finish.Ended
      rw [State.setOutcome_dosing, State.addFault_dosing]
      exact sound.closed.ended_finish_settle (by decide)
    · exact sound

theorem State.cureWork_cureSound (sound : s.cureSound) {t : Tool} {r : Recipe} (running : s.curing = some (t, r)) :
    (s.cureWork t r).cureSound := by
  have called : s.dosing.called = .accumulating := State.called_eq (State.state_of_curing running)
  have judged := s.cureMoment.judged_dosing t r
  have advanced := sound.advance (cure := (s.cureMoment.accumulate t r).cure) rfl
    (s.cureMoment.map_required_advanceCavities _ _ _)
  refine State.decideRelease_cureSound ?_ ?_ r
  · rw [State.cureSound, judged]
    exact advanced
  · rw [judged]
    exact called

/-! ## The ejector's sequence -/

/-- A sequence ends in TAKEOUT with the cure over, as it was (R134, R136). -/
theorem State.endSequence_cureSound (ended : s.dosing.Ended) : s.endSequence.cureSound := by
  refine State.enterTakeout_cureSound (s := (s.updateOpen _).setEjector _) ?_
  show (s.updateOpen _).dosing.Ended
  rwa [State.recordStrokes_dosing]

section
variable (sound : s.cureSound) (ejecting : s.cycle.state = .ejecting)
include sound ejecting

/-- In EJECTING the cure is over. -/
theorem State.ended_of_ejecting : s.dosing.Ended := sound.ended (State.called_eq ejecting)

theorem State.abandonSequence_cureSound : s.abandonSequence.cureSound := by
  refine State.endSequence_cureSound (s := s.setOutcome _) ?_
  rw [State.setOutcome_dosing]
  exact (State.ended_of_ejecting sound ejecting).settle (by decide)

theorem State.judgeBack_cureSound : s.judgeBack.cureSound := by
  obtain ⟨_, e⟩ | ⟨_, ⟨_, e⟩ | ⟨_, _, e⟩ | ⟨_, _, _, e⟩ | ⟨_, _, _, e⟩⟩ := s.judgeBack_cases <;> rw [e]
  · exact sound
  · exact State.abandonSequence_cureSound sound ejecting
  · exact sound
  · exact sound
  · exact State.endSequence_cureSound (State.ended_of_ejecting sound ejecting)

theorem State.retract_cureSound (stalled : Bool) : (s.retract stalled).cureSound :=
  State.judgeBack_cureSound (s := (s.setEjector _).setTimers _) sound ejecting

theorem State.abandon_cureSound : s.abandon.cureSound := by
  unfold State.abandon
  split
  · exact State.abandonSequence_cureSound sound ejecting
  all_goals exact sound

theorem State.unjam_cureSound : s.unjam.cureSound := by
  unfold State.unjam
  split
  · exact State.abandonSequence_cureSound sound ejecting
  · exact sound

theorem State.stopEjector_cureSound : s.stopEjector.cureSound := by
  unfold State.stopEjector
  dsimp only
  split
  · exact State.abandonSequence_cureSound (s := s.setEjector _) sound ejecting
  · exact sound

theorem State.stall_cureSound : s.stall.cureSound :=
  State.retract_cureSound (s := (s.strokeMoment.addFault _).post _ _ _)
    (State.cureSound_of_eq sound (s.strokeMoment.addFault_dosing _)) ejecting true

end

theorem State.forwardReached_cureSound (sound : s.cureSound) : s.forwardReached.cureSound := by
  unfold State.forwardReached
  split
  next extending =>
    exact State.retract_cureSound (s := s.setEjector { s.ejector with strokes := s.ejector.strokes + 1 }) sound
      extending.1 false
  · exact sound

theorem State.backReached_cureSound (sound : s.cureSound) : s.backReached.cureSound := by
  unfold State.backReached
  split
  next ejecting =>
    split
    · exact State.judgeBack_cureSound sound ejecting
    · exact State.unjam_cureSound sound ejecting
    all_goals exact sound
  · exact sound

/-! ## ABORT, the emergency stop and RESTART -/

theorem State.abortCycle_cureSound (sound : s.cureSound) : s.abortCycle.cureSound := by
  unfold State.abortCycle
  split
  case h_5 => exact State.abortLoading_cureSound sound _
  case h_6 => exact State.abortCuring_cureSound sound _
  case h_7 release => exact State.abortRelease_cureSound sound release _
  case h_8 ejecting =>
    exact State.abandon_cureSound (s := s.addFault _) (State.cureSound_of_eq sound (s.addFault_dosing _)) ejecting
  all_goals exact sound

theorem State.stopCycle_cureSound (sound : s.cureSound) : s.stopCycle.cureSound := by
  have marked (u : State) (same : u.dosing = s.dosing) : (u.addFault .estop).cureSound :=
    State.cureSound_of_eq sound ((u.addFault_dosing _).trans same)
  unfold State.stopCycle
  split
  case h_1 => exact sound
  case h_2 | h_3 => exact State.cureSound_of_eq sound s.evaluate_dosing
  case h_4 => exact State.abortLoading_cureSound sound _
  case h_5 => exact State.abortCuring_cureSound sound _
  case h_6 => exact marked s.drivePermits rfl
  case h_7 ejecting => exact State.stopEjector_cureSound (marked s rfl) ejecting
  case h_8 => exact marked s rfl

theorem State.resumeCycle_dosing (s : State) : s.resumeCycle.dosing = s.dosing := by
  unfold State.resumeCycle
  split
  case h_1 | h_2 => exact s.evaluate_dosing
  case h_4 => exact s.drivePermits.leaveRelease_dosing
  all_goals rfl

/-- What RESTART finds of an interrupted cycle leaves the CLOSED records alone. -/
theorem State.restartFindings_closed (sound : s.cureSound) : s.restartFindings.dosing.Closed := by
  unfold State.restartFindings
  split
  · rw [State.endCure_dosing]
    exact sound.closed.finish
  · rw [State.recordStrokes_dosing]
    exact sound.closed
  all_goals exact sound.closed

/-- RESTART leaves every record CLOSED: between cycles they are, and an interrupted cycle's is closed as ABORTED (R109). -/
theorem State.restartClose_shut (sound : s.cureSound) : s.restartClose.dosing.Shut := by
  unfold State.restartClose
  split
  · rw [State.promoteMounted_dosing, State.closeRecord_dosing, State.markAborted_dosing]
    exact ((State.restartFindings_closed sound).reached_settle (by decide)).close
  next idle => exact sound.shut (State.called_idle (by simpa using idle))

theorem State.restartAct_cureSound (sound : s.cureSound) : s.restartAct.cureSound := by
  have heat : s.restartHeat.cureSound :=
    State.cureSound_of_eq sound ((s.setDrive { s.drive with master := false }).applyZones_dosing _)
  rw [State.cureSound, State.restartAct, State.restartNotices_dosing, State.restartUnmount_dosing]
  exact (State.restartClose_shut heat).sound

theorem State.answerSent_cureSound (sound : s.cureSound) : s.answerSent.cureSound := by
  have same (u : State) (p : Port) : (u.setPort p).dosing = u.dosing := rfl
  rw [State.cureSound, State.answerSent, same]
  split
  · exact State.restartAct_cureSound sound
  · exact sound

theorem State.powerOn_cureSound (s : State) (held : Bool) : (s.powerOn held).cureSound :=
  Dosing.Shut.sound (v := ⟨Cure.reset, .idle, []⟩) nofun

end Sys2Proof.Machine
end

section
/-! PROOF. Every command kind and every event keeps the cure sound, and so does every step (R111, R123). -/

namespace Sys2Proof.Machine

variable {s : State}

/-! ## Commands -/

section
variable (sound : s.cureSound) (body : List Byte)
include sound

/-- MOUNT and UNMOUNT are taken between cycles, and leave the cycle in a state in which the integrator is IDLE. -/
theorem State.cureSound_of_remounted {t : State} (idle : s.dosing.called = .idle)
    (same : t.dosing = { s.dosing with called := .idle }) : t.cureSound :=
  State.cureSound_of_eq sound (same.trans (by rw [← idle]))

theorem mountCommand_cureSound : (mountCommand body s).state.cureSound := by
  refine Reply.ofLength_holds sound ?_
  split
  · exact sound
  next idle =>
    split
    · exact sound
    · split
      · exact sound
      · split
        · exact sound
        · have former : s.unmountFormer.dosing = s.dosing := State.dosing_congr (by simp) (by simp) (by simp)
          refine State.cureSound_of_remounted sound (State.called_idle (by simpa using idle)) ?_
          rw [Reply.done_state, State.mountSlot, State.evaluate_dosing, State.enter_dosing, State.setWorkings_dosing,
            ← former]
          rfl

theorem unmountCommand_cureSound : (unmountCommand body s).state.cureSound := by
  refine Reply.ofLength_holds sound ?_
  split
  next waits =>
    have released : s.releaseStation.dosing = s.dosing := State.dosing_congr (by simp) (by simp) (by simp)
    refine State.cureSound_of_remounted sound (CycleState.curePhase_of_waits waits) ?_
    rw [Reply.done_state, State.unmountTool, State.enter_dosing, State.setWorkings_dosing, ← released]
    rfl
  · exact sound

theorem startCommand_cureSound : (startCommand body s).state.cureSound := by
  refine Reply.ofLength_holds sound ?_
  split
  · exact sound
  · split
    · exact sound
    next waits =>
      have shut := sound.shut (CycleState.curePhase_of_waits (by simpa using waits))
      split
      · exact sound
      · split
        · exact sound
        · split
          · exact sound
          · rw [Reply.done_state, State.cureSound, State.startCycle_dosing]
            exact shut.start rfl rfl (by simp [Cure.pendingFor, ChargeEntry.recorded])

theorem stageRecipeCommand_cureSound : (stageRecipeCommand body s).state.cureSound := by
  refine Reply.ofLength_holds sound ?_
  split
  · exact sound
  · split
    · exact sound
    · split
      · exact State.cureSound_of_eq sound (State.dispose_dosing (s.stage _ _) _)
      · exact sound

theorem setSerialCommand_cureSound : (setSerialCommand body s).state.cureSound := by
  refine Reply.ofLength_holds sound ?_
  split_ifs
  · exact sound
  · exact sound
  · exact sound
  · exact State.cureSound_of_eq sound (s.changeRing_dosing _)

theorem releasePartsCommand_cureSound : (releasePartsCommand body s).state.cureSound := by
  refine Reply.ofLength_holds sound ?_
  rw [Reply.done_state, State.cureSound, State.changeRing_dosing]
  exact sound.release (List.map_subset _ (List.dropWhile_sublist _).subset)

theorem discardCommand_cureSound : (discardCommand body s).state.cureSound := by
  refine Reply.ofLength_holds sound ?_
  split
  · exact sound
  · exact State.cureSound_of_eq sound (s.changeQueue_dosing _)

theorem armCommand_cureSound : (armCommand body s).state.cureSound := by
  refine Reply.ofLength_holds sound ?_
  dsimp only
  (repeat' split) <;> exact sound

theorem setZoneCommand_cureSound : (setZoneCommand body s).state.cureSound := by
  refine Reply.ofLength_holds sound ?_
  split
  · exact State.cureSound_of_eq sound (s.configureZone_dosing _ _)
  · exact sound

theorem setSupplyCommand_cureSound : (setSupplyCommand body s).state.cureSound := by
  have same (v : Drive) : (s.setDrive v).dosing = s.dosing := rfl
  refine Reply.ofLength_holds sound ?_
  split
  · exact sound
  · exact State.cureSound_of_eq sound (same _)

theorem heatCommand_cureSound : (heatCommand body s).state.cureSound := by
  refine Reply.ofLength_holds sound ?_
  split
  · exact sound
  · exact State.cureSound_of_eq sound (s.setMaster_dosing _)

theorem abortCommand_cureSound : (abortCommand body s).state.cureSound := by
  refine Reply.ofLength_holds sound ?_
  split
  · exact State.abortCycle_cureSound sound
  · exact sound

theorem abandonEjectCommand_cureSound : (abandonEjectCommand body s).state.cureSound := by
  refine Reply.ofLength_holds sound ?_
  split
  next ejecting => exact State.abandon_cureSound sound ejecting
  · exact sound

theorem reportRecord_cureSound (r : Option PartRecord) : (reportRecord s r).state.cureSound := by
  cases r <;> exact sound

/-- Every command kind keeps the cure sound; those not named here write to neither the cycle controller, nor the integrator,
nor the ring. -/
theorem commandOf_cureSound {kind : Byte} {f : State → Reply} (named : commandOf kind body = some f) :
    (f s).state.cureSound := by
  unfold commandOf at named
  split at named <;> cases named
  case h_9 => exact stageRecipeCommand_cureSound sound body
  case h_11 => exact mountCommand_cureSound sound body
  case h_12 => exact unmountCommand_cureSound sound body
  case h_13 => exact setZoneCommand_cureSound sound body
  case h_15 => exact setSupplyCommand_cureSound sound body
  case h_16 => exact heatCommand_cureSound sound body
  case h_18 => exact armCommand_cureSound sound body
  case h_22 => exact discardCommand_cureSound sound body
  case h_24 => exact startCommand_cureSound sound body
  case h_25 => exact abortCommand_cureSound sound body
  case h_27 => exact abandonEjectCommand_cureSound sound body
  case h_28 | h_29 => exact Reply.ofLength_holds sound (reportRecord_cureSound sound _)
  case h_30 => exact releasePartsCommand_cureSound sound body
  case h_31 => exact setSerialCommand_cureSound sound body
  all_goals
    refine Reply.ofLength_holds sound ?_
    (repeat' split) <;> exact sound

end

theorem keptByCommands_cureSound : KeptByCommands State.cureSound where
  port _ _ sound := sound
  timers _ _ sound := sound
  commands _ body _ named _ sound := commandOf_cureSound sound body named

/-! ## Events -/

/-- Every event keeps the cure sound. -/
theorem exec_event_cureSound {c : Instr} (row : commandRow c = none) (sound : s.cureSound) :
    ∃ t, exec c s = .next t ∧ t.cureSound := by
  have kept {t : State} (same : t.dosing = s.dosing) : t.cureSound := State.cureSound_of_eq sound same
  have event {u t : State} (before : u.dosing = s.dosing) (done : t.cureSound) : (u.unlessHeld t).cureSound :=
    State.unlessHeld_holds (fun _ => kept before) done
  have onlyWhere {p : Prop} [Decidable p] {u t : State} (before : u.dosing = s.dosing) (done : p → t.cureSound) :
      (if p then t else u).cureSound := by
    split
    next h => exact done h
    · exact kept before
  cases c
  case powerOnReset level =>
    refine ⟨_, rfl, ?_⟩
    split
    · exact s.powerOn_cureSound true
    · exact s.powerOn_cureSound false
  case telegramDiscarded bytes => exact ⟨_, rfl, keptByCommands_cureSound.receiveAll sound bytes⟩
  case syncByteReceived => exact ⟨_, rfl, keptByCommands_cureSound.receive sound _⟩
  case interByteGapTimeout =>
    refine ⟨_, rfl, event rfl ?_⟩
    split <;> exact sound
  case answerSent => exact ⟨_, rfl, event rfl (onlyWhere rfl fun _ => State.answerSent_cureSound sound)⟩
  case secondAdvance => exact ⟨_, rfl, event rfl (kept s.advanceSecond_dosing)⟩
  case chargeExpiry => exact ⟨_, rfl, event rfl (onlyWhere rfl fun _ => kept s.advanceSecond_dosing)⟩
  case zoneSample z r => exact ⟨_, rfl, event rfl (kept (s.sampleZone_dosing z r))⟩
  case settleTimeReached z r | zoneFaultEntry z r | zoneRecovery z r =>
    exact ⟨_, rfl, event rfl (onlyWhere rfl fun _ => kept (s.sampleZone_dosing z r))⟩
  case windowStart => exact ⟨_, rfl, event rfl sound⟩
  case onTimeEnd => exact ⟨_, rfl, event rfl (onlyWhere rfl fun _ => sound)⟩
  case bridgeSample count => exact ⟨_, rfl, event rfl (kept (s.sampleBridge_dosing count))⟩
  case captureComplete count | tareComplete count | spanComplete count =>
    exact ⟨_, rfl, event rfl (onlyWhere rfl fun _ => kept (s.sampleBridge_dosing count))⟩
  case captureKeyRising level => exact ⟨_, rfl, event rfl (kept s.keyRequest_dosing)⟩
  case captureTimeout =>
    refine ⟨_, rfl, event rfl ?_⟩
    split
    next p _ _ =>
      split
      · exact sound
      · exact kept (s.failCapture_dosing p)
    · exact sound
  case eStopRising =>
    refine ⟨_, rfl, event rfl (State.stopCycle_cureSound (kept ?_))⟩
    rw [State.followZones_dosing]
    rfl
  case eStopFalling =>
    refine ⟨_, rfl, event rfl (kept ?_)⟩
    rw [State.resumeCycle_dosing, State.followZones_dosing]
    rfl
  case pressClosedRising =>
    have closed : (s.setInputs { s.inputs with pressClosed := true }).cureSound := sound
    exact ⟨_, rfl, event rfl (onlyWhere rfl fun loading => State.beginCure_cureSound closed loading)⟩
  case pressClosedFalling =>
    have opened : (s.setInputs { s.inputs with pressClosed := false }).cureSound := sound
    exact ⟨_, rfl, event rfl (onlyWhere rfl fun _ => State.abortCuring_cureSound opened .openedEarly)⟩
  case closeTimeout =>
    refine ⟨_, rfl, event rfl (onlyWhere rfl fun _ => ?_)⟩
    refine State.leaveLoading_cureSound (s := (s.closeMoment.markAborted _).post _ _ _) ?_
    show (s.closeMoment.markAborted .closeTimeout).dosing.AllReached
    rw [State.markAborted_dosing]
    exact Dosing.Closed.reached_settle sound.closed (by decide)
  case cureSecond =>
    refine ⟨_, rfl, event rfl ?_⟩
    split
    · exact sound
    · exact State.cureWork_cureSound sound ‹_›
  case maximumCureReached =>
    refine ⟨_, rfl, event rfl ?_⟩
    split
    · exact sound
    · exact onlyWhere rfl fun _ => State.cureWork_cureSound sound ‹_›
  case openOverdue => exact ⟨_, rfl, event rfl (onlyWhere rfl fun _ => kept s.postOverdue_dosing)⟩
  case pressOpenRising => exact ⟨_, rfl, event rfl (kept (State.leaveRelease_dosing (s.setInputs _)))⟩
  case ejectAtFwdRising => exact ⟨_, rfl, event rfl (State.forwardReached_cureSound sound)⟩
  case ejectAtBackRising =>
    exact ⟨_, rfl, event rfl (State.backReached_cureSound (s := (s.setInputs _).drivePermits) sound)⟩
  case ejectAtBackFalling => exact ⟨_, rfl, event rfl sound⟩
  case ejectStall =>
    exact ⟨_, rfl, event rfl (onlyWhere rfl fun extending => State.stall_cureSound sound extending.1)⟩
  case ejectJam =>
    exact ⟨_, rfl, event rfl (onlyWhere rfl fun _ => kept s.jam_dosing)⟩
  case takeoutClearRising =>
    refine ⟨_, rfl, event rfl ?_⟩
    show State.cureSound (if s.cycle.state = .takeout then s.closeCycle else s)
    exact onlyWhere rfl fun takeout => State.closeCycle_cureSound (sound.ended (State.called_eq takeout)).reached
  all_goals cases row

/-! ## Every step -/

/-- Settles O59: a view of the state gathers the integrator, the phase its cycle state calls for and the records. A record
is closed only once the cure is over, and a cure ends either with every dose met, when the doses written are those that the
record requires, or with an outcome that is not GOOD. -/
theorem everyStepKeepsTheCureSound : Obligations.EveryStepKeepsTheCureSound := by
  intro s t _ ring cure next
  have sound : s.cureSound := State.dosing_sound ring cure
  refine State.cureInv_of_dosing_sound ?_
  unfold step at next
  split at next
  · have elapsed : (s.unlessHeld (s.elapse 1)).cureSound :=
      State.unlessHeld_holds (P := State.cureSound) (fun _ => sound) sound
    exact Host.Outcome.next.inj next ▸ elapsed
  next c rest _ =>
    have kept : ∃ u, exec c (s.setPending rest) = .next u ∧ u.cureSound := by
      cases row : commandRow c with
      | none => exact exec_event_cureSound (s := s.setPending rest) row sound
      | some telegram => exact keptByCommands_cureSound.exec_row (s := s.setPending rest) sound row
    obtain ⟨u, done, kept⟩ := kept
    exact Host.Outcome.next.inj (done.symm.trans next) ▸ kept

end Sys2Proof.Machine
end

section
/-! PROOF. RELEASE PARTS and SET SERIAL (R144, R146): the four-byte field of their bodies, what they find in a sound ring,
the ready reasons after a change of the ring, and the statement. -/

namespace Sys2Proof.Machine

/-! ## Four-byte fields -/

@[simp] theorem length_be32 (n : Nat) : (be32 n).length = 4 := rfl

/-- A four-byte field reads as the number written into it. -/
theorem u32_be32 {n : Nat} (fits : n < 4294967296) : u32 (be32 n) 0 = n := by
  simp [u32, u16, be32]
  omega

/-! ## The records that a release removes (R146) -/

/-- Where what passes a test stands before all that fails it, what is left from the first failure on is all that fails. -/
theorem dropWhile_eq_filter_not {α : Type} {p : α → Bool} {l : List α}
    (first : l.Pairwise (fun a b => p b = true → p a = true)) : l.dropWhile p = l.filter (fun a => !p a) := by
  induction l with
  | nil => rfl
  | cons a l ih =>
    obtain ⟨head, tail⟩ := List.pairwise_cons.1 first
    cases passes : p a
    · have rest : ∀ b ∈ l, p b = false := fun b m => by simpa [passes] using head b m
      simpa [passes] using (List.filter_eq_self.2 (by simpa using rest)).symm
    · simpa [passes] using ih tail

/-- What has another element after it is not the last. -/
theorem pairwise_of_forall_mem_dropLast {α : Type} {P : α → Prop} {l : List α} (before : ∀ a ∈ l.dropLast, P a) :
    l.Pairwise (fun a _ => P a) := by
  refine List.pairwise_iff_getElem.2 fun i j _ hj lt => before _ ?_
  have place : i < l.dropLast.length := by rw [List.length_dropLast]; omega
  exact List.getElem_dropLast place ▸ List.getElem_mem place

section
variable {s : State} (inv : RingInv s)
include inv

/-- A record before a releasable one is releasable: it is not the newest, so CLOSED, and its serial is lower. -/
theorem releasable_before (n : Nat) :
    s.ring.records.Pairwise (fun a b => b.releasable n = true → a.releasable n = true) := by
  refine (inv.rising.and (pairwise_of_forall_mem_dropLast inv.newest)).imp ?_
  rintro a b ⟨lower, closed⟩ releasable
  have reached : b.serial ≤ n := by
    simp only [PartRecord.releasable, Bool.and_eq_true, decide_eq_true_eq] at releasable
    exact releasable.2
  simp [PartRecord.releasable, closed, lower.le.trans reached]

/-- RELEASE PARTS stops at the first record it may not remove, and may remove none after it. -/
theorem dropWhile_releasable (n : Nat) : s.ring.records.dropWhile (·.releasable n)
    = s.ring.records.filter (fun p => p.opened || n < p.serial) := by
  rw [dropWhile_eq_filter_not (releasable_before inv n)]
  refine List.filter_congr fun p _ => ?_
  simp [PartRecord.releasable, ← decide_not]

/-! ## The newest serial (R144) -/

/-- Some record's serial reaches n just where the newest record's does. -/
theorem newest_reaches_iff (n : Nat) : s.ring.records.getLast?.any (fun p => decide (n ≤ p.serial)) = true
    ↔ ∃ p ∈ s.ring.records, n ≤ p.serial := by
  rw [Option.any_eq_true]
  constructor
  · rintro ⟨p, last, reaches⟩
    exact ⟨p, List.mem_of_getLast? last, by simpa using reaches⟩
  · rintro ⟨p, held, reaches⟩
    have newest := (inv.rising.imp le_of_lt).rel_getLast_of_rel_getLast_getLast held le_rfl
    exact ⟨_, List.getLast?_eq_some_getLast _, by simpa using reaches.trans newest⟩

end

/-! ## The ready reasons after a change of the ring (R95, R147) -/

section
variable (s : State)

@[simp] theorem State.changeRing_ring (r : Ring) : (s.changeRing r).ring = r := by
  obtain ⟨e, _⟩ | e := s.changeRing_cases r <;> rw [e] <;> rfl

/-- A change of the ring leaves the ready reasons in agreement with it: they are evaluated where its fullness or its spent
serial changes, and agree without that where neither does. -/
theorem State.changeRing_reevaluated (inv : CycleInv s) (r : Ring) : Reevaluated s (s.changeRing r) := by
  obtain ⟨e, full, spent⟩ | e := s.changeRing_cases r <;> rw [e]
  · have conditions : (s.setRing r).conditions = s.conditions := by
      show { s.conditions with ringFull := decide (48 ≤ r.records.length), serialSpent := r.nextSerial.isNone }
        = s.conditions
      rw [full, spent]
      rfl
    unfold Reevaluated
    rw [conditions]
    exact reevaluated_self inv
  · exact (s.setRing r).evaluate_reevaluated

/-- A change of the ring writes to the ring and the cycle controller alone. -/
theorem State.changeRing_eq (r : Ring) : s.changeRing r = (s.setRing r).setCycle (s.changeRing r).cycle := by
  obtain ⟨e, _⟩ | e := s.changeRing_cases r <;> rw [e] <;> rfl

/-- The port's receive state is no part of what a change of the ring reads. -/
theorem State.hunt_changeRing (r : Ring) : s.hunt.changeRing r = (s.changeRing r).hunt := by
  unfold State.changeRing
  rw [show s.hunt.ring = s.ring from rfl]
  split <;> rfl

end

/-! ## What RELEASE PARTS and SET SERIAL answer -/

section
variable {s : State} {body : List Byte} {n : Nat}

theorem releasePartsCommand_badLength (length : body.length ≠ 4) : releasePartsCommand body s = .refuse s .badLength := by
  rw [releasePartsCommand, beq_false_of_ne length, Reply.ofLength_false]

theorem releasePartsCommand_done (fits : n < 4294967296) {kept : List PartRecord}
    (left : s.ring.records.dropWhile (·.releasable n) = kept) : releasePartsCommand (be32 n) s
      = .done (s.changeRing { s.ring with records := kept }) [byte (s.ring.records.length - kept.length)] := by
  simp [releasePartsCommand, u32_be32 fits, left]

theorem setSerialCommand_badLength (length : body.length ≠ 4) : setSerialCommand body s = .refuse s .badLength := by
  rw [setSerialCommand, beq_false_of_ne length, Reply.ofLength_false]

theorem setSerialCommand_wrongState (opened : s.ring.records.any (·.opened) = true) :
    setSerialCommand (be32 n) s = .refuse s .wrongState := by
  rw [setSerialCommand, length_be32, beq_self_eq_true, Reply.ofLength_true, if_pos opened]

section
variable (fits : n < 4294967296) (shut : s.ring.records.any (·.opened) = false)
include fits shut

theorem setSerialCommand_badValue
    (low : n = 0 ∨ s.ring.records.getLast?.any (fun p => decide (n ≤ p.serial)) = true) :
    setSerialCommand (be32 n) s = .refuse s .badValue := by
  rw [setSerialCommand, length_be32, beq_self_eq_true, Reply.ofLength_true, shut, u32_be32 fits]
  obtain zero | reached := low
  · simp [zero]
  · simp [reached]

theorem setSerialCommand_done (positive : 0 < n)
    (beyond : s.ring.records.getLast?.any (fun p => decide (n ≤ p.serial)) = false) :
    setSerialCommand (be32 n) s = .done (s.changeRing { s.ring with nextSerial := some n }) (be32 n) := by
  rw [setSerialCommand, length_be32, beq_self_eq_true, Reply.ofLength_true, shut, u32_be32 fits]
  simp [positive.ne', beyond]

end

end

section
variable {s : State} {guard : Byte} (accepted : s.accepts guard) (body : List Byte)
include accepted

/-- RELEASE PARTS accepted is carried out by its own rule, over the port that hunts again (R150, R151). -/
theorem exec_releaseParts : exec (.releaseParts guard body) s
    = .next ((releasePartsCommand body s.hunt).state.owe 0x52 (releasePartsCommand body s.hunt).status
        (releasePartsCommand body s.hunt).body) :=
  congrArg _ (s.take_accepts 0x52 guard (releasePartsCommand body) accepted)

/-- SET SERIAL accepted is carried out by its own rule, over the port that hunts again (R150, R151). -/
theorem exec_setSerial : exec (.setSerial guard body) s
    = .next ((setSerialCommand body s.hunt).state.owe 0x53 (setSerialCommand body s.hunt).status
        (setSerialCommand body s.hunt).body) :=
  congrArg _ (s.take_accepts 0x53 guard (setSerialCommand body) accepted)

end

/-- What a command that changes the ring and answers DONE leaves: the ring, the answer, the ready reasons in agreement, and
all else as it was. -/
theorem changeRing_answered {s : State} (inv : CycleInv s) (r : Ring) (kind : Byte) (body : List Byte) :
    ∃ t, (s.hunt.changeRing r).owe kind .done body = t ∧ t.ring = r ∧ t.port.answer = some ⟨kind, .done, body⟩
      ∧ Reevaluated s t ∧ t = ((s.setRing t.ring).setCycle t.cycle).setPort t.port := by
  refine ⟨(s.changeRing r).answering kind .done body, ?same, s.changeRing_ring r, rfl, s.changeRing_reevaluated inv r,
    ?frame⟩
  case same =>
    rw [State.hunt_changeRing]
    rfl
  case frame =>
    rw [State.answering, State.setPort_ring, State.setPort_cycle, State.changeRing_ring, ← State.changeRing_eq]
    rfl

/-- Settles O50: each clause is one case of a command's rule. In a sound ring the releasable records stand before all
others, the newest serial is the highest, and a record is OPEN just in the running states. -/
theorem ringCommandsKeepTheSerials : Obligations.RingCommandsKeepTheSerials := by
  intro s guard n accepted cycle ring fits
  refine ⟨fun body length => ⟨?_, ?_⟩, ?release, fun running => ?_, fun rests low => ?_,
    fun rests positive beyond => ?set⟩
  · rw [exec_releaseParts accepted, releasePartsCommand_badLength length]
    rfl
  · rw [exec_setSerial accepted, setSerialCommand_badLength length]
    rfl
  case release =>
    have left := dropWhile_releasable ring n
    rw [exec_releaseParts accepted, releasePartsCommand_done (s := s.hunt) fits left]
    obtain ⟨t, done, changed, answer, agree, frame⟩ := changeRing_answered cycle _ 0x52 _
    exact ⟨t, congrArg _ done, changed, changed ▸ answer, agree, frame⟩
  · have opened := ring.running.trans running
    rw [exec_setSerial accepted, setSerialCommand_wrongState (s := s.hunt) opened]
    rfl
  · have shut := ring.running.trans rests
    have refused := low.imp_right (newest_reaches_iff ring n).2
    rw [exec_setSerial accepted, setSerialCommand_badValue (s := s.hunt) fits shut refused]
    rfl
  case set =>
    have shut := ring.running.trans rests
    have above : s.ring.records.getLast?.any (fun p => decide (n ≤ p.serial)) = false := by
      rw [Bool.eq_false_iff, ne_eq, newest_reaches_iff ring]
      rintro ⟨p, held, reaches⟩
      exact absurd (beyond p held) (not_lt.2 reaches)
    rw [exec_setSerial accepted, setSerialCommand_done (s := s.hunt) fits shut positive above]
    obtain ⟨t, done, changed, answer, agree, frame⟩ := changeRing_answered cycle _ 0x53 _
    exact ⟨t, congrArg _ done, changed, answer, agree, frame⟩

end Sys2Proof.Machine
end

section
/-! PROOF. More frames: what the operations of single rows leave alone, in the manner of Sys2Proof/Laws/Frames.lean, so that
an invariant of one block need not follow a row that does not write to it. -/

namespace Sys2Proof.Machine

variable (s : State)

/-! ## Operations on few items: what they write, and what they leave -/

theorem State.keyRequest_eq : ∃ v t, s.keyRequest = (s.setScale v).setTimers t := by
  unfold State.keyRequest
  split
  · exact ⟨s.scale, s.timers, rfl⟩
  · split
    · exact ⟨s.scale, s.timers, rfl⟩
    · exact ⟨_, _, rfl⟩

theorem State.addFaultIf_eq (b : Bool) (c : FaultCode) : ∃ r, s.addFaultIf b c = s.setRing r := by
  cases b
  · exact ⟨s.ring, rfl⟩
  · exact ⟨_, rfl⟩

theorem State.judgeZones_eq (t : Tool) : ∃ r, s.judgeZones t = s.setRing r := by
  have third {u : State} {r : Ring} (b : Bool) (c : FaultCode) (same : u = s.setRing r) : ∃ q, u.addFaultIf b c = s.setRing q := by
    obtain ⟨q, e⟩ := u.addFaultIf_eq b c
    exact ⟨q, by rw [e, same]; rfl⟩
  obtain ⟨r, e⟩ := s.addFaultIf_eq ((t.cavityZones.toList.take s.cure.cavities.length).any s.someFault) .sensorLost
  obtain ⟨q, f⟩ := third ((t.cavityZones.toList.take s.cure.cavities.length).any s.allFault) .noGoverningSensor e
  exact third _ _ f

theorem State.restartFindings_eq : ∃ v r, s.restartFindings = (s.setCure v).setRing r := by
  unfold State.restartFindings
  split
  · exact ⟨_, _, rfl⟩
  · exact ⟨s.cure, _, rfl⟩
  all_goals exact ⟨s.cure, s.ring, rfl⟩

theorem State.leaveRelease_eq : ∃ c e v, s.leaveRelease = ((s.setCycle c).setEjector e).setTimers v := by
  unfold State.leaveRelease
  split
  · exact ⟨_, _, _, rfl⟩
  · exact ⟨s.cycle, s.ejector, s.timers, rfl⟩

theorem State.resumeCycle_eq : ∃ c e v, s.resumeCycle = ((s.setCycle c).setEjector e).setTimers v := by
  unfold State.resumeCycle
  split
  case h_1 | h_2 => exact ⟨s.evaluate.cycle, s.ejector, s.timers, rfl⟩
  case h_3 => exact ⟨s.drivePermits.cycle, s.ejector, s.timers, rfl⟩
  case h_4 =>
    obtain ⟨c, e, v, same⟩ := s.drivePermits.leaveRelease_eq
    exact ⟨c, e, v, same⟩
  all_goals exact ⟨s.cycle, s.ejector, s.timers, rfl⟩

theorem State.decideRelease_scale (r : Recipe) : (s.decideRelease r).scale = s.scale := by
  unfold State.decideRelease
  split
  · simp
  · split
    · simp
    · rfl

/-- The figures of a cure second, before the decision: cure and record move with the time. -/
theorem State.judged_eq (t : Tool) (r : Recipe) : ∃ w v q, (s.cureMoment.accumulate t r).judgeZones t =
    ((s.setTimers w).setCure v).setRing q := by
  obtain ⟨q, e⟩ := (s.cureMoment.accumulate t r).judgeZones_eq t
  exact ⟨_, _, q, e⟩

theorem State.cureWork_scale (t : Tool) (r : Recipe) : (s.cureWork t r).scale = s.scale := by
  obtain ⟨_, _, _, e⟩ := s.judged_eq t r
  rw [State.cureWork, State.decideRelease_scale, e]
  rfl

/-! ## The rules of the ejector and of a running cycle -/

/-- What the rules of a running cycle leave alone. -/
def State.bystanders := (s.rates, s.drive, s.scale, s.queue, s.port, s.clocks, s.inputs, s.pending)

def State.Aside (s t : State) : Prop := t.bystanders = s.bystanders

theorem State.Aside.trans {s t u : State} (first : s.Aside t) (second : t.Aside u) : s.Aside u := Eq.trans second first

theorem State.Aside.scale {s t : State} (aside : s.Aside t) : t.scale = s.scale := congrArg (·.2.2.1) aside

theorem State.Aside.inputs {s t : State} (aside : s.Aside t) : t.inputs = s.inputs := congrArg (·.2.2.2.2.2.2.1) aside

/-- The frames of Laws/Frames.lean in this form. -/
theorem State.aside_of_frame {s t : State} (frame : t.rates = s.rates ∧ t.drive = s.drive ∧ t.scale = s.scale ∧ t.queue = s.queue
    ∧ t.port = s.port ∧ t.clocks = s.clocks ∧ t.inputs = s.inputs ∧ t.pending = s.pending) : s.Aside t := by
  simp only [State.Aside, State.bystanders, frame]

theorem State.enterTakeout_aside : s.Aside s.enterTakeout := State.aside_of_frame (by simp)

theorem State.leaveLoading_aside : s.Aside s.leaveLoading :=
  .trans (t := s.endPending) rfl (State.enterTakeout_aside _)

theorem State.abandonSequence_aside : s.Aside s.abandonSequence := State.aside_of_frame s.abandonSequence_frame

theorem State.judgeBack_aside : s.Aside s.judgeBack := State.aside_of_frame s.judgeBack_frame

theorem State.stopCure_aside : s.Aside s.stopCure := State.aside_of_frame (by simp)

theorem State.stopEjector_aside : s.Aside s.stopEjector := by
  unfold State.stopEjector
  dsimp only
  split
  · exact .trans (t := s.setEjector (s.ejector.stopped s.inputs.ejectAtBack)) rfl
      (State.abandonSequence_aside _)
  · exact rfl

theorem State.stopCycle_aside : s.Aside s.stopCycle := by
  unfold State.stopCycle
  split
  · exact rfl
  · exact rfl
  · exact rfl
  · exact .trans (t := s.markAborted .estop) rfl (State.leaveLoading_aside _)
  · exact .trans (t := s.markAborted .estop) rfl (State.stopCure_aside _)
  · exact rfl
  · exact .trans (t := s.addFault .estop) rfl (State.stopEjector_aside _)
  · exact rfl

theorem State.forwardReached_aside : s.Aside s.forwardReached := by
  unfold State.forwardReached
  split
  · exact .trans (t := s.setEjector { s.ejector with strokes := s.ejector.strokes + 1 })
      rfl (State.aside_of_frame (State.retract_frame _ _))
  · exact rfl

theorem State.unjam_aside : s.Aside s.unjam := by
  unfold State.unjam
  split
  · exact s.abandonSequence_aside
  · exact rfl

theorem State.backReached_aside : s.Aside s.backReached := by
  unfold State.backReached
  split
  · split
    · exact s.judgeBack_aside
    · exact s.unjam_aside
    all_goals exact rfl
  · exact rfl

theorem State.stall_aside : s.Aside s.stall :=
  .trans (t := (s.strokeMoment.addFault .ejectStall).post .ejectStall s.openSubject (some s.ejector.strokes))
    rfl (State.aside_of_frame (State.retract_frame _ _))

theorem State.timeOutClose_aside : s.Aside s.timeOutClose :=
  .trans (t := (s.closeMoment.markAborted .closeTimeout).post .closeOverdue s.openSubject (some (s.limitOf (·.closeTimeout))))
    rfl (State.leaveLoading_aside _)

/-! ## Operations on the zones and on the tool table -/

theorem State.setMaster_scale (on : Bool) : (s.setMaster on).scale = s.scale := by
  unfold State.setMaster
  split
  · rfl
  · simp

theorem State.dispose_scale (i : SlotIx) : (s.dispose i).scale = s.scale := by
  unfold State.dispose
  split
  · rfl
  · split <;> simp

theorem State.dispose_ring (i : SlotIx) : (s.dispose i).ring = s.ring := by
  unfold State.dispose
  split
  · rfl
  · split <;> simp

theorem State.mountSlot_left (i : SlotIx) : (s.mountSlot i).tools = s.tools ∧ (s.mountSlot i).ring = s.ring ∧
    (s.mountSlot i).scale = s.unmountFormer.scale := by
  simp [State.mountSlot]

theorem State.unmountTool_left : s.unmountTool.tools = s.tools ∧ s.unmountTool.ring = s.ring ∧
    s.unmountTool.scale = s.releaseStation.scale := by
  simp [State.unmountTool]

theorem State.restartHeat_left : s.restartHeat.tools = s.tools ∧ s.restartHeat.scale = s.scale ∧ s.restartHeat.cycle = s.cycle ∧
    s.restartHeat.ring = s.ring := by
  simp [State.restartHeat]

theorem State.restartClose_scale : s.restartClose.scale = s.scale := by
  unfold State.restartClose
  split
  · obtain ⟨_, _, e⟩ := s.restartFindings_eq
    simp [e]
  · rfl

theorem State.restartUnmount_left : s.restartUnmount.tools = s.tools ∧ s.restartUnmount.ring = s.ring ∧
    s.restartUnmount.scale = s.scale.restarted := by
  simp [State.restartUnmount]

theorem State.restartNotices_left : s.restartNotices.tools = s.tools ∧ s.restartNotices.ring = s.ring ∧
    s.restartNotices.scale = s.scale := ⟨rfl, rfl, rfl⟩

theorem State.restartAct_left : s.restartAct.tools = s.restartHeat.restartClose.tools ∧
    s.restartAct.ring = s.restartHeat.restartClose.ring ∧ s.restartAct.scale = s.scale.restarted := by
  obtain ⟨tools, ring, scale⟩ := s.restartHeat.restartClose.restartUnmount_left
  obtain ⟨tools', ring', scale'⟩ := s.restartHeat.restartClose.restartUnmount.restartNotices_left
  refine ⟨tools'.trans tools, ring'.trans ring, scale'.trans (scale.trans (congrArg Scale.restarted ?_))⟩
  obtain ⟨_, heat, _⟩ := s.restartHeat_left
  exact s.restartHeat.restartClose_scale.trans heat

theorem State.expire_scale : s.expire.scale = s.scale := by
  have posts (l : List ChargeEntry) : (l.foldl (fun t e => t.post .chargeExpired (.charge e.number)
      (some (e.cavity : Int))) s).scale = s.scale :=
    List.foldlRecOn l _ (motive := fun t : State => t.scale = s.scale) rfl fun _ same _ _ => same
  simp [State.expire, posts]

theorem State.advanceSecond_scale : s.advanceSecond.scale = s.scale := by
  unfold State.advanceSecond
  dsimp only
  split
  · rfl
  · exact State.expire_scale (s.secondMoment.setClocks s.clocks.advanced)

end Sys2Proof.Machine
end

section
/-! PROOF. What every command row shares: the telegram it takes, and a command that its own rule answers or refuses. -/

namespace Sys2Proof.Machine

/-- Settles O1: a step is defined by the front of the queue. -/
theorem stepCarriesOutTheFrontCommand : Obligations.StepCarriesOutTheFrontCommand := by
  intro s c rest waiting
  unfold step
  rw [waiting]

/-! ## A command accepted -/

section
variable {s : State} {c : Instr} {kind guard : Byte} {f : State → Reply} (accepted : s.accepts guard)
  (row : exec c s = .next (s.take kind guard (some f)))
include accepted row

/-- A command accepted is carried out by its own rule, over the port that hunts again (R150, R151). -/
theorem exec_accepted : exec c s = .next ((f s.hunt).state.owe kind (f s.hunt).status (f s.hunt).body) := by
  rw [row, s.take_accepts kind guard f accepted]

/-- A command that its own rule refuses changes nothing but the answer. -/
theorem exec_refused {status : Status} (refused : f s.hunt = .refuse s.hunt status) :
    exec c s = .next (s.answering kind status []) := by
  rw [exec_accepted accepted row, refused]
  rfl

/-- A command that its own rule carries out answers over the state the rule leaves. -/
theorem exec_answered {t : State} {status : Status} {body : List Byte} (done : f s.hunt = ⟨t.hunt, status, body⟩) :
    exec c s = .next (t.answering kind status body) := by
  rw [exec_accepted accepted row, done]
  rfl

/-- A body of a length the kind does not have is refused BAD_LENGTH (10.5). -/
theorem exec_badLength {agrees : Bool} {k : Reply} (judged : f s.hunt = .ofLength agrees s.hunt k) (wrong : agrees = false) :
    exec c s = .next (s.answering kind .badLength []) :=
  exec_refused accepted row (by rw [judged, wrong, Reply.ofLength_false])

end

/-- A body that is not empty has not length 0. -/
theorem length_beq_zero {body : List Byte} (some : body ≠ []) : (body.length == 0) = false := by
  simpa using some

/-! ## The telegram rows -/

/-- A command row takes the telegram that its kind, guard and body spell, under the rule of its kind; an unknown kind has
none. -/
theorem exec_commandRow_eq (c : Instr) (s : State) :
    match commandRow c with
    | some (kind, guard, body) => c = .unknownKind kind guard body
        ∨ exec c s = .next (s.take kind guard (commandOf kind body)) ∧ (commandOf kind body).isSome
    | none => True := by
  induction c
  case unknownKind => exact .inl rfl
  case powerOnReset | telegramDiscarded | interByteGapTimeout | answerSent | secondAdvance | chargeExpiry | zoneSample
      | settleTimeReached | zoneFaultEntry | zoneRecovery | windowStart | onTimeEnd | bridgeSample | captureKeyRising
      | captureComplete | captureTimeout | tareComplete | spanComplete | eStopRising | eStopFalling | pressClosedRising
      | pressClosedFalling | closeTimeout | cureSecond | maximumCureReached | openOverdue | pressOpenRising
      | ejectAtFwdRising | ejectAtBackRising | ejectAtBackFalling | ejectStall | ejectJam | takeoutClearRising
      | syncByteReceived => trivial
  all_goals exact .inr ⟨rfl, rfl⟩

/-- The row of a known kind takes the telegram of its kind's own rule. -/
theorem exec_known {c : Instr} {kind guard : Byte} {body : List Byte} (row : commandRow c = some (kind, guard, body))
    (known : c ≠ .unknownKind kind guard body) (s : State) :
    ∃ f, commandOf kind body = some f ∧ exec c s = .next (s.take kind guard (some f)) := by
  have taken := exec_commandRow_eq c s
  rw [row] at taken
  obtain unknown | ⟨done, named⟩ := taken
  · exact absurd unknown known
  · obtain ⟨f, named⟩ := Option.isSome_iff_exists.1 named
    exact ⟨f, named, named ▸ done⟩

/-- A byte spells itself. -/
theorem byte_toNat (b : Byte) : byte b.toNat = b := by
  rw [byte, BitVec.ofNat_toNat, BitVec.setWidth_eq]

set_option maxRecDepth 100000 in
/-- A kind byte that names a rule is in the table (10.5): by its 256 values. -/
theorem mem_kindBytes_of_isSome {kind : Byte} {body : List Byte} : (commandOf kind body).isSome = true → kind.toNat ∈ kindBytes := by
  have each : ∀ k : Fin 256, (commandOf ⟨k⟩ body).isSome = true → k.val ∈ kindBytes := of_decide_eq_true rfl
  exact each kind.toFin

/-- The rule that a kind byte names is one of those of 10.5: what holds of each of them and its code holds of it. -/
theorem commandOf_elim {body : List Byte} {Q : Nat → (State → Reply) → Prop} {kind : Byte} {f : State → Reply}
    (named : commandOf kind body = some f)
    (identify : Q 0x01 (identifyCommand body)) (readStatus : Q 0x02 (readStatusCommand body))
    (readZone : Q 0x03 (readZoneCommand body)) (readNotices : Q 0x04 (readNoticesCommand body))
    (setClock : Q 0x05 (setClockCommand body)) (restart : Q 0x06 (restartCommand body))
    (defineTool : Q 0x10 (defineToolCommand body)) (clearTool : Q 0x11 (clearToolCommand body))
    (stageRecipe : Q 0x12 (stageRecipeCommand body)) (loadRates : Q 0x13 (loadRatesCommand body))
    (mount : Q 0x14 (mountCommand body)) (unmount : Q 0x15 (unmountCommand body))
    (setZone : Q 0x20 (setZoneCommand body)) (setWindow : Q 0x21 (setWindowCommand body))
    (setSupply : Q 0x22 (setSupplyCommand body)) (heat : Q 0x23 (heatCommand body))
    (setStation : Q 0x30 (setStationCommand body)) (arm : Q 0x31 (armCommand body))
    (capture : Q 0x32 (captureCommand body)) (tare : Q 0x33 (tareCommand body)) (span : Q 0x34 (spanCommand body))
    (discard : Q 0x38 (discardCommand body)) (listCharges : Q 0x39 (listChargesCommand body))
    (start : Q 0x40 (startCommand body)) (abort : Q 0x41 (abortCommand body))
    (retryEject : Q 0x42 (retryEjectCommand body)) (abandonEject : Q 0x43 (abandonEjectCommand body))
    (readPart : Q 0x50 (readPartCommand body)) (readOldestPart : Q 0x51 (readOldestPartCommand body))
    (releaseParts : Q 0x52 (releasePartsCommand body)) (setSerial : Q 0x53 (setSerialCommand body)) :
    Q kind.toNat f := by
  have each : ∀ code ∈ kindBytes, (commandOf (byte code) body).elim True (Q code) := List.forall_iff_forall_mem.1
    ⟨identify, readStatus, readZone, readNotices, setClock, restart, defineTool, clearTool, stageRecipe, loadRates, mount, unmount,
      setZone, setWindow, setSupply, heat, setStation, arm, capture, tare, span, discard, listCharges, start, abort,
      retryEject, abandonEject, readPart, readOldestPart, releaseParts, setSerial⟩
  have found := each kind.toNat (mem_kindBytes_of_isSome (by rw [named]; rfl))
  rwa [byte_toNat, named] at found

/-- The kind byte of a well-formed unknown kind is not in the table, and so names no kind (10.5). -/
theorem commandOf_unknownKind {kind guard : Byte} {body : List Byte} (formed : (Instr.unknownKind kind guard body).wellFormed) :
    commandOf kind body = none := by
  obtain ⟨unknown, _⟩ : kind.toNat ∉ kindBytes ∧ bodyFits body = true := by simpa [Instr.wellFormed] using formed
  exact Option.not_isSome_iff_eq_none.1 (mt mem_kindBytes_of_isSome unknown)

/-- A well-formed command row takes the telegram its kind byte, guard and body make (R149, R151). -/
theorem exec_row_eq_take {c : Instr} {kind guard : Byte} {body : List Byte} (row : commandRow c = some (kind, guard, body))
    (formed : c.wellFormed = true) (s : State) : exec c s = .next (s.take kind guard (commandOf kind body)) := by
  by_cases known : c = .unknownKind kind guard body
  · subst known
    simp only [exec, execUnknownKind, commandOf_unknownKind formed]
  · obtain ⟨f, named, done⟩ := exec_known row known s
    rw [named, done]

/-- Settles O6: with an answer owed a telegram is discarded, whatever its kind. -/
theorem owedAnswerShutsOutCommands : Obligations.OwedAnswerShutsOutCommands := by
  intro c s kind guard body row formed pin owed
  rw [exec_row_eq_take row formed, s.take_owed kind guard _ pin owed]
  rfl

/-- The guards of R151 that fail, flag by flag. -/
theorem guardHolds_eq_false {guard : Byte} {c : Cycle} (fails : guard = 1 ∧ c.ready = false ∨ guard = 2 ∧ c.ready = true
    ∨ guard = 3 ∧ c.clean = false ∨ guard = 4 ∧ c.clean = true ∨ guard = 5 ∧ ¬(c.ready = true ∧ c.clean = true)
    ∨ guard = 6 ∧ ¬(c.ready = true ∧ c.clean = false) ∨ guard = 7 ∧ c.ready = true ∧ c.clean = true) :
    guard.toNat ≤ 7 ∧ guardHolds guard c = false := by
  obtain ⟨rfl, h⟩ | ⟨rfl, h⟩ | ⟨rfl, h⟩ | ⟨rfl, h⟩ | ⟨rfl, h⟩ | ⟨rfl, h⟩ | ⟨rfl, ready, clean⟩ := fails
  · exact ⟨by decide, h⟩
  · exact ⟨by decide, congrArg Bool.not h⟩
  · exact ⟨by decide, h⟩
  · exact ⟨by decide, congrArg Bool.not h⟩
  · exact ⟨by decide, Bool.eq_false_iff.2 (mt Bool.and_eq_true_iff.1 h)⟩
  · exact ⟨by decide, Bool.eq_false_iff.2 fun both => h ((Bool.and_eq_true_iff.1 both).imp_right Bool.eq_false_of_not_eq_true')⟩
  · exact ⟨by decide, congrArg₂ (!· || !·) ready clean⟩

/-- Settles O7: the three refusals come before the kind's own tests, in their order. -/
theorem guardRefusalsChangeNothing : Obligations.GuardRefusalsChangeNothing := by
  intro c s kind guard body row formed pin owed
  refine ⟨fun code => ?_, fun code unknown => ?_, fun known fails => ?_⟩
  · rw [exec_row_eq_take row formed, s.take_badGuard kind guard _ pin owed code]
    rfl
  · subst unknown
    rw [exec_row_eq_take row formed, commandOf_unknownKind formed, s.take_unknown kind guard pin owed code]
    rfl
  · obtain ⟨f, _, done⟩ := exec_known row known s
    obtain ⟨code, fails⟩ := guardHolds_eq_false fails
    rw [done, s.take_passed kind guard f pin owed code fails]
    rfl

/-! ## What a command can do -/

/-- The state that the rule of a command leaves: the state before, or that after the one effect of its kind, under the tests
that it has passed. -/
inductive Effect (s : State) : State → Prop
  | none : Effect s s
  | notices : Effect s (s.setNotices s.notices.reported)
  | clock (n : Nat) : Effect s (s.setClocks { s.clocks with part := n })
  | restart : Effect s (s.setPort { s.port with restartTaken := true })
  | define {i : SlotIx} {body : List Byte} (range : toolInRange body = true)
      (free : s.slotOf (u16 body 0) = some i ∧ s.isMounted i = false
        ∨ s.slotOf (u16 body 0) = .none ∧ s.emptySlot = some i) : Effect s (s.writeTool i (toolOf body))
  | clear {i : SlotIx} (other : s.isMounted i = false) : Effect s (s.setTools (s.tools.set i .none))
  | stage {i : SlotIx} {t : Tool} {r : Recipe} (held : s.tools[i] = some t) (cavities : r.cavities.length = t.cavityCount)
      (cure : r.minCure ≤ r.maxCure) : Effect s ((s.stage i r).dispose i)
  | rates (k : Fin 4) (t : RateTable) : Effect s (s.setRates (s.rates.set k t))
  | mount {i : SlotIx} {t : Tool} {r : Recipe} (stopped : s.cycle.state.running = false) (held : s.tools[i] = some t)
      (active : t.active = some r) : Effect s (s.mountSlot i)
  | unmount (waits : s.cycle.state.waits = true) : Effect s s.unmountTool
  | configure {c : ZoneConfig} (z : ZoneIx) (range : zoneConfigInRange c = true) : Effect s (s.configureZone z c)
  | window (w : Nat) : Effect s (s.setDrive { s.drive with windowSetting := w })
  | supply (b : Nat) : Effect s (s.setDrive { s.drive with budget := b })
  | heat (on : Bool) : Effect s (s.setMaster on)
  | station (c : Station) : Effect s (s.setScale { s.scale with station := c })
  | arm (a : Arming) : Effect s (s.setScale { s.scale with arming := some a })
  | capture (idle : s.scale.capture = .idle) (p : Snapshot) : Effect s (s.beginCapture p)
  | measure (idle : s.scale.capture = .idle) (k : MeasureKind) : Effect s (s.beginMeasurement k)
  | discard (q : List ChargeEntry) : Effect s (s.changeQueue q)
  | start {i : SlotIx} {t : Tool} {r : Recipe} {n : Nat} {charges rest : List ChargeEntry} {force : Bool}
      (waits : s.cycle.state.waits = true) (passes : startRefusal s.cycle.reasons force = .none)
      (needs : s.startNeeds = .ok (i, t, r, n)) (taken : takeSet (List.range' 1 t.cavityCount) s.queue = some (charges, rest)) :
      Effect s (s.startCycle i t r n charges rest)
  | abort (running : s.cycle.state.running = true) : Effect s s.abortCycle
  | retry (may : s.mayRetry = true) : Effect s s.retry
  | abandon (ejecting : s.cycle.state = .ejecting) : Effect s s.abandon
  | release (n : Nat) : Effect s (s.changeRing { s.ring with records := s.ring.records.dropWhile (·.releasable n) })
  | serial {n : Nat} (range : 1 ≤ n ∧ n ≤ 4294967295) (above : ∀ r, s.ring.records.getLast? = some r → r.serial < n) :
      Effect s (s.changeRing { s.ring with nextSerial := some n })

/-- Two halves below w make a number below w * w. -/
theorem mul_add_lt {w a b : Nat} (ha : a < w) (hb : b < w) : a * w + b < w * w :=
  calc a * w + b < a * w + w := Nat.add_lt_add_left hb _
    _ = (a + 1) * w := (Nat.succ_mul a w).symm
    _ ≤ w * w := Nat.mul_le_mul_right w ha

/-- The bytes of a body carry no greater number. -/
theorem u16_lt (body : List Byte) (i : Nat) : u16 body i < 65536 := mul_add_lt (w := 256) (BitVec.isLt _) (BitVec.isLt _)

theorem u32_lt (body : List Byte) (i : Nat) : u32 body i < 4294967296 := mul_add_lt (w := 65536) (u16_lt _ _) (u16_lt _ _)

theorem and_left {a b : Bool} (both : (a && b) = true) : a = true := (Bool.and_eq_true_iff.1 both).1

/-- The fields of a recipe body in their ranges name a minimum cure at most the maximum (R6). -/
theorem cure_le_of_fieldsFit {body : List Byte} (fields : recipeFieldsFit body = true) : u16 body 9 ≤ u16 body 11 :=
  (of_decide_eq_true (Bool.and_eq_true_iff.1 (and_left (and_left (and_left (and_left (and_left (and_left fields))))))).2).2.2

section
variable (s : State) (body : List Byte)

theorem Effect.ofLength {s : State} {agrees : Bool} {k : Reply} (effect : Effect s k.state) :
    Effect s (Reply.ofLength agrees s k).state :=
  Reply.ofLength_holds (P := Effect s) .none effect

theorem readZoneCommand_effect : Effect s (readZoneCommand body s).state := by
  refine .ofLength ?_
  split <;> exact .none

theorem defineToolCommand_effect : Effect s (defineToolCommand body s).state := by
  refine .ofLength ?_
  split
  · exact .none
  next range =>
    have range : toolInRange body = true := by simpa using range
    split
    next i found =>
      split
      · exact .none
      next other => exact .define range (.inl ⟨found, by simpa using other⟩)
    next absent =>
      split
      · exact .none
      next i empty => exact .define range (.inr ⟨absent, empty⟩)

theorem clearToolCommand_effect : Effect s (clearToolCommand body s).state := by
  refine .ofLength ?_
  split
  · exact .none
  · split
    · exact .none
    next other => exact .clear (by simpa using other)

theorem stageRecipeCommand_effect : Effect s (stageRecipeCommand body s).state := by
  refine .ofLength ?_
  split
  · exact .none
  · split
    · exact .none
    next t held =>
      split
      next fits =>
        obtain ⟨named, fields⟩ := Bool.and_eq_true_iff.1 fits
        have count := of_decide_eq_true (Bool.and_eq_true_iff.1 named).2
        exact .stage held (by simpa [recipeOf] using count) (cure_le_of_fieldsFit fields)
      · exact .none

theorem loadRatesCommand_effect : Effect s (loadRatesCommand body s).state := by
  refine .ofLength ?_
  split
  · exact .none
  · split
    · exact .none
    · exact .rates _ _

theorem mountCommand_effect : Effect s (mountCommand body s).state := by
  refine .ofLength ?_
  split
  · exact .none
  next stopped =>
    split
    · exact .none
    · split
      · exact .none
      next t held =>
        split
        · exact .none
        next some =>
          obtain ⟨r, active⟩ := Option.ne_none_iff_exists'.1 (by simpa using some)
          exact .mount (by simpa using stopped) held active

theorem unmountCommand_effect : Effect s (unmountCommand body s).state := by
  refine .ofLength ?_
  split
  next waits => exact .unmount waits
  · exact .none

theorem setZoneCommand_effect : Effect s (setZoneCommand body s).state := by
  refine .ofLength ?_
  split
  next fits => exact .configure _ fits.2.2
  · exact .none

theorem setSupplyCommand_effect : Effect s (setSupplyCommand body s).state := by
  refine .ofLength ?_
  split
  · exact .none
  · exact .supply _

theorem heatCommand_effect : Effect s (heatCommand body s).state := by
  refine .ofLength ?_
  split
  · exact .none
  · exact .heat _

theorem setStationCommand_effect : Effect s (setStationCommand body s).state := by
  refine .ofLength ?_
  split
  · exact .station _
  · exact .none

theorem armCommand_effect : Effect s (armCommand body s).state := by
  refine .ofLength ?_
  dsimp only
  split
  · exact .none
  · split
    · exact .none
    · split
      · exact .arm _
      · exact .none

theorem captureCommand_effect : Effect s (captureCommand body s).state := by
  refine .ofLength ?_
  split
  · exact .none
  next idle =>
    split
    · exact .none
    · exact .capture (by simpa using idle) _

theorem tareCommand_effect : Effect s (tareCommand body s).state := by
  refine .ofLength ?_
  split
  · exact .none
  next idle => exact .measure (by simpa using idle) _

theorem spanCommand_effect : Effect s (spanCommand body s).state := by
  refine .ofLength ?_
  split
  · exact .none
  · split
    · exact .none
    next idle => exact .measure (by simpa using idle) _

theorem discardCommand_effect : Effect s (discardCommand body s).state := by
  refine .ofLength ?_
  split
  · exact .none
  · exact .discard _

theorem listChargesCommand_effect : Effect s (listChargesCommand body s).state := by
  refine .ofLength ?_
  split <;> exact .none

theorem startCommand_effect : Effect s (startCommand body s).state := by
  refine .ofLength ?_
  split
  · exact .none
  · split
    · exact .none
    next waits =>
      split
      · exact .none
      next passes =>
        split
        · exact .none
        next needs =>
          split
          · exact .none
          next taken => exact .start (by simpa using waits) passes needs taken

theorem abortCommand_effect : Effect s (abortCommand body s).state := by
  refine .ofLength ?_
  split
  next running => exact .abort running
  · exact .none

theorem retryEjectCommand_effect : Effect s (retryEjectCommand body s).state := by
  refine .ofLength ?_
  split
  next may => exact .retry may
  · exact .none

theorem abandonEjectCommand_effect : Effect s (abandonEjectCommand body s).state := by
  refine .ofLength ?_
  split
  next ejecting => exact .abandon ejecting
  · exact .none

theorem reportRecord_effect (r : Option PartRecord) : Effect s (reportRecord s r).state := by
  cases r <;> exact .none

theorem setSerialCommand_effect : Effect s (setSerialCommand body s).state := by
  refine .ofLength ?_
  split
  · exact .none
  · split
    · exact .none
    next named =>
      split
      · exact .none
      next above => exact .serial ⟨Nat.one_le_iff_ne_zero.2 named, Nat.le_of_lt_succ (u32_lt body 0)⟩ (by simpa [Option.any_eq_true] using above)

/-- The rule of every kind has one of these effects, or none. -/
theorem commandOf_effect {kind : Byte} {f : State → Reply} (named : commandOf kind body = some f) : Effect s (f s).state :=
  commandOf_elim named (Q := fun _ f => Effect s (f s).state) (.ofLength .none) (.ofLength .none)
    (readZoneCommand_effect s body) (.ofLength .notices) (.ofLength (.clock _)) (.ofLength .restart)
    (defineToolCommand_effect s body) (clearToolCommand_effect s body) (stageRecipeCommand_effect s body)
    (loadRatesCommand_effect s body) (mountCommand_effect s body) (unmountCommand_effect s body)
    (setZoneCommand_effect s body) (.ofLength (.window _)) (setSupplyCommand_effect s body) (heatCommand_effect s body)
    (setStationCommand_effect s body) (armCommand_effect s body) (captureCommand_effect s body)
    (tareCommand_effect s body) (spanCommand_effect s body) (discardCommand_effect s body)
    (listChargesCommand_effect s body) (startCommand_effect s body) (abortCommand_effect s body)
    (retryEjectCommand_effect s body) (abandonEjectCommand_effect s body) (.ofLength (reportRecord_effect s _))
    (.ofLength (reportRecord_effect s _)) (.ofLength (.release _)) (setSerialCommand_effect s body)

end

/-- A property that every effect keeps is kept by every command. -/
theorem KeptByCommands.of_effects {P : State → Prop} (port : ∀ s v, P s → P (s.setPort v))
    (timers : ∀ s v, P s → P (s.setTimers v)) (effect : ∀ s t, Effect s t → P s → P t) : KeptByCommands P :=
  ⟨port, timers, fun _ body _ named s before => effect s _ (commandOf_effect s body named) before⟩

end Sys2Proof.Machine
end

section
/-! PROOF. Which operations post notices (R155, R156): each leaves the notice queue as it was with some notices pushed after,
so that the queue stays sound and what stood in it stays at its head; port, clocks, inputs and the queue of commands stay. -/

namespace Sys2Proof.Machine

/-- The items that no rule but that of a line row, a reset or a second advance writes to. -/
def State.line (s : State) := (s.port, s.clocks, s.inputs, s.pending)

/-- The notice queue of t is that of s with some notices pushed after, and port, clocks, inputs and queue are as in s. -/
def State.Posted (s t : State) : Prop :=
  (∃ l : List Notice, t.notices = l.foldl NoticeQueue.push s.notices) ∧ t.line = s.line

namespace State.Posted

variable {s t u : State}

theorem of_eq (same : t.notices = s.notices) (line : t.line = s.line) : s.Posted t := ⟨⟨[], same⟩, line⟩

theorem refl (s : State) : s.Posted s := of_eq rfl rfl

theorem trans (first : s.Posted t) (second : t.Posted u) : s.Posted u := by
  obtain ⟨⟨l, first⟩, same⟩ := first
  obtain ⟨⟨m, second⟩, same'⟩ := second
  exact ⟨⟨l ++ m, by rw [List.foldl_append, ← first, second]⟩, same'.trans same⟩

theorem port (posted : s.Posted t) : t.port = s.port := congrArg (·.1) posted.2

theorem clocks (posted : s.Posted t) : t.clocks = s.clocks := congrArg (·.2.1) posted.2

theorem inputs (posted : s.Posted t) : t.inputs = s.inputs := congrArg (·.2.2.1) posted.2

theorem pending (posted : s.Posted t) : t.pending = s.pending := congrArg (·.2.2.2) posted.2

/-- An evaluation posts nothing. -/
theorem evaluate (posted : s.Posted t) : s.Posted t.evaluate := posted

/-- Nor does a cycle state entered. -/
theorem enter (posted : s.Posted t) (st : CycleState) : s.Posted (t.enter st) := posted

/-- What has the notices and the line of a state posts from it too. -/
theorem after (posted : t.Posted u) (same : t.notices = s.notices) (line : t.line = s.line) : s.Posted u :=
  (of_eq same line).trans posted

/-- A push leaves what stood in the queue at its head. -/
theorem prefix_push (q : NoticeQueue) (n : Notice) : q.list <+: (q.push n).list := by
  obtain ⟨_, e⟩ | ⟨_, e⟩ := q.push_cases n <;> rw [e]
  · exact List.prefix_append _ _

/-- What stood in the queue stays at its head. -/
theorem list_prefix (posted : s.Posted t) : s.notices.list <+: t.notices.list := by
  obtain ⟨⟨l, e⟩, _⟩ := posted
  rw [e]
  exact List.foldlRecOn l NoticeQueue.push (motive := fun q => s.notices.list <+: q.list) List.prefix_rfl
    fun q head n _ => head.trans (prefix_push q n)

/-- A notice posted with a place free stands after those that were there. -/
theorem post_prefix {kind : NoticeKind} {subject : Subject} {value : Option Int} (room : s.notices.list.length < 16)
    (posted : (s.post kind subject value).Posted t) :
    s.notices.list ++ [⟨kind, s.clocks.part, subject, value⟩] <+: t.notices.list :=
  s.post_list kind subject value room ▸ posted.list_prefix

end State.Posted

/-! ## The invariant of the queue -/

/-- The notice queue is sound (R156). -/
theorem noticeInv_iff (s : State) : NoticeInv s ↔
    s.notices.list.length ≤ 16 ∧ s.notices.attn = (!s.notices.list.isEmpty || s.notices.lapsed) :=
  ⟨fun ⟨places, attn⟩ => ⟨places, attn⟩, fun ⟨places, attn⟩ => ⟨places, attn⟩⟩

theorem NoticeInv.of_eq {s t : State} (inv : NoticeInv s) (same : t.notices = s.notices) : NoticeInv t := by
  rw [noticeInv_iff, same]
  exact (noticeInv_iff s).1 inv

/-- Notices pushed keep the queue sound. -/
theorem NoticeInv.posted {s t : State} (inv : NoticeInv s) (posted : s.Posted t) : NoticeInv t := by
  obtain ⟨⟨l, e⟩, _⟩ := posted
  have kept : NoticeInv (s.setNotices (l.foldl NoticeQueue.push s.notices)) :=
    List.foldlRecOn l NoticeQueue.push (motive := fun q => NoticeInv (s.setNotices q)) inv fun q inv n _ =>
      NoticeInv.of_eq ((s.setNotices q).setClocks { s.clocks with part := n.time } |>.post_noticeInv n.kind n.subject
        n.value (inv.of_eq rfl)) rfl
  exact kept.of_eq e

/-! ## Zones -/

section
variable (s : State)

theorem State.post_posted (kind : NoticeKind) (subject : Subject) (value : Option Int) :
    s.Posted (s.post kind subject value) :=
  ⟨⟨[⟨kind, s.clocks.part, subject, value⟩], rfl⟩, rfl⟩

theorem State.postZone_posted (z : ZoneIx) (l : List (NoticeKind × Option Int)) : s.Posted (s.postZone z l) :=
  List.foldlRecOn l _ (motive := fun t => s.Posted t) (.refl s) fun t posted _ _ => posted.trans (t.post_posted _ _ _)

theorem State.applyZone_posted (z : ZoneIx) (f : ZoneStep → ZoneStep) : s.Posted (s.applyZone z f) := by
  have posts := State.postZone_posted ((s.setZones (s.zones.set z (f (s.zoneStep z)).zone)).setHeaters
    (s.heaters.set z (f (s.zoneStep z)).heater)) z (f (s.zoneStep z)).posts
  obtain ⟨e, _⟩ | ⟨e, _⟩ := s.applyZone_cases z f <;> rw [e]
  · exact posts
  · exact posts.trans (.refl _)

theorem State.applyZones_posted (f : ZoneIx → ZoneStep → ZoneStep) : s.Posted (s.applyZones f) := by
  unfold State.applyZones
  dsimp only
  exact List.foldlRecOn _ _ (motive := fun t => s.Posted t) (.refl _) fun t posted _ _ =>
    posted.trans (t.postZone_posted _ _)

theorem State.setWorkings_posted : s.Posted s.setWorkings := s.applyZones_posted _
theorem State.followZones_posted : s.Posted s.followZones := s.applyZones_posted _
theorem State.sampleZone_posted (z : ZoneIx) (r : Reading) : s.Posted (s.sampleZone z r) :=
  (s.zoneMoment z).applyZone_posted z _
theorem State.configureZone_posted (z : ZoneIx) (c : ZoneConfig) : s.Posted (s.configureZone z c) := by
  rw [State.configureZone]
  exact s.applyZone_posted z _

theorem State.keyRequest_posted : s.Posted s.keyRequest := by
  obtain ⟨_, _, e⟩ := s.keyRequest_eq
  rw [e]
  exact .refl s

theorem State.setMaster_posted (on : Bool) : s.Posted (s.setMaster on) := by
  unfold State.setMaster
  split
  · exact .refl s
  · exact (State.followZones_posted (s.setDrive { s.drive with master := on })).trans (.refl _)

/-! ## Tools and mounting -/

theorem State.promote_posted (i : SlotIx) : s.Posted (s.promote i) := by
  obtain e | ⟨t, r, _, _, e⟩ := s.promote_cases i <;> rw [e]
  · exact .refl s
  · exact State.post_posted (s.setTools _) _ _ _

theorem State.promoteMounted_posted : s.Posted s.promoteMounted := by
  unfold State.promoteMounted
  split
  · exact .refl s
  · split
    · exact (s.promote_posted _).trans (State.setWorkings_posted _)
    · exact .refl s

theorem State.dispose_posted (i : SlotIx) : s.Posted (s.dispose i) := by
  unfold State.dispose
  split
  · exact .refl s
  · split
    · exact s.promoteMounted_posted.trans (.refl _)
    · exact s.promote_posted i

theorem State.dropCharges_posted : s.Posted s.dropCharges := by
  unfold State.dropCharges
  split
  · exact .refl s
  · exact (s.post_posted _ _ _).trans (.refl _)

theorem State.cancelWaiting_posted : s.Posted s.cancelWaiting := by
  unfold State.cancelWaiting
  split <;> exact .refl s

theorem State.releaseStation_posted : s.Posted s.releaseStation := s.dropCharges_posted.trans (State.cancelWaiting_posted _)

theorem State.unmountFormer_posted : s.Posted s.unmountFormer := by
  unfold State.unmountFormer
  split
  · exact s.releaseStation_posted
  · exact .refl s

theorem State.mountSlot_posted (i : SlotIx) : s.Posted (s.mountSlot i) := by
  have mounted := State.setWorkings_posted (s.unmountFormer.setMounted (some i))
  rw [State.mountSlot]
  exact s.unmountFormer_posted.trans (State.Posted.evaluate ((State.Posted.refl _).trans mounted))

theorem State.unmountTool_posted : s.Posted s.unmountTool := by
  have unmounted := State.setWorkings_posted (s.releaseStation.setMounted none)
  exact s.releaseStation_posted.trans (.trans (.refl _) (unmounted.trans (.refl _)))

/-! ## The close of a cycle and the end of a sequence -/

theorem State.closeRecord_posted : s.Posted s.closeRecord := by
  obtain ⟨_, e⟩ | ⟨r, _, _, _, e⟩ := s.closeRecord_cases
  · rw [e]
    exact .refl s
  · exact ⟨⟨[_], e⟩, by simp [State.line]⟩

theorem State.closeCycle_posted : s.Posted s.closeCycle :=
  s.closeRecord_posted.trans ((State.promoteMounted_posted s.closeRecord.idleCure).trans (.refl _))

theorem State.enterTakeout_posted : s.Posted s.enterTakeout := by
  obtain ⟨_, e⟩ | ⟨_, e⟩ := s.enterTakeout_cases <;> rw [e]
  · exact .refl s
  · exact State.closeCycle_posted (s.enter .takeout)

theorem State.leaveLoading_posted : s.Posted s.leaveLoading := s.endPending.enterTakeout_posted
theorem State.endSequence_posted : s.Posted s.endSequence :=
  State.enterTakeout_posted ((s.updateOpen _).setEjector _)
theorem State.abandonSequence_posted : s.Posted s.abandonSequence := (s.setOutcome .ejectAbandoned).endSequence_posted

theorem State.judgeBack_posted : s.Posted s.judgeBack := by
  obtain ⟨_, e⟩ | ⟨_, ⟨_, e⟩ | ⟨_, _, e⟩ | ⟨_, _, _, e⟩ | ⟨_, _, _, e⟩⟩ := s.judgeBack_cases <;> rw [e]
  · exact .refl s
  · exact s.abandonSequence_posted
  · exact .refl s
  · exact .refl s
  · exact s.endSequence_posted

theorem State.retract_posted (stalled : Bool) : s.Posted (s.retract stalled) :=
  State.judgeBack_posted ((s.setEjector _).setTimers _)

theorem State.abandon_posted : s.Posted s.abandon := by
  unfold State.abandon
  split
  · exact s.abandonSequence_posted
  all_goals exact .refl s

theorem State.stopCure_posted : s.Posted s.stopCure := .of_eq (by simp) (by simp [State.line])

theorem State.abortCycle_posted : s.Posted s.abortCycle := by
  unfold State.abortCycle
  split
  case h_5 => exact State.leaveLoading_posted (s.markAborted .abort)
  case h_6 => exact State.stopCure_posted (s.markAborted .abort)
  case h_8 => exact State.abandon_posted (s.addFault .abort)
  all_goals exact .refl s

theorem State.stopEjector_posted : s.Posted s.stopEjector := by
  unfold State.stopEjector
  dsimp only
  split
  · exact State.abandonSequence_posted (s.setEjector _)
  · exact .refl s

theorem State.stopCycle_posted : s.Posted s.stopCycle := by
  unfold State.stopCycle
  split
  case h_4 => exact State.leaveLoading_posted (s.markAborted .estop)
  case h_5 => exact State.stopCure_posted (s.markAborted .estop)
  case h_7 => exact State.stopEjector_posted (s.addFault .estop)
  all_goals exact .refl s

theorem State.forwardReached_posted : s.Posted s.forwardReached := by
  unfold State.forwardReached
  split
  · exact State.retract_posted (s.setEjector _) false
  · exact .refl s

theorem State.unjam_posted : s.Posted s.unjam := by
  unfold State.unjam
  split
  · exact s.abandonSequence_posted
  · exact .refl s

theorem State.backReached_posted : s.Posted s.backReached := by
  unfold State.backReached
  split
  · split
    · exact s.judgeBack_posted
    · exact s.unjam_posted
    all_goals exact .refl s
  · exact .refl s

theorem State.leaveRelease_posted : s.Posted s.leaveRelease := by
  obtain ⟨_, _, _, e⟩ := s.leaveRelease_eq
  rw [e]
  exact .refl s

theorem State.resumeCycle_posted : s.Posted s.resumeCycle := by
  obtain ⟨_, _, _, e⟩ := s.resumeCycle_eq
  rw [e]
  exact .refl s

theorem State.stall_posted : s.Posted s.stall :=
  (State.post_posted (s.strokeMoment.addFault .ejectStall) _ _ _).trans (State.retract_posted _ true)

theorem State.jam_posted : s.Posted s.jam :=
  State.post_posted ((s.strokeMoment.setEjector _).addFault .ejectJam) _ _ _

theorem State.timeOutClose_posted : s.Posted s.timeOutClose :=
  (State.post_posted (s.closeMoment.markAborted .closeTimeout) _ _ _).trans (State.leaveLoading_posted _)

theorem State.postOverdue_posted : s.Posted s.postOverdue := s.openMoment.post_posted _ _ _

theorem State.decideRelease_posted (r : Recipe) : s.Posted (s.decideRelease r) := by
  unfold State.decideRelease
  split
  · exact (s.post_posted _ _ _).trans (State.stopCure_posted _)
  · split
    · exact (State.post_posted ((s.addFault .undercure).setOutcome .undercured) _ _ _).trans (State.stopCure_posted _)
    · exact .refl s

theorem State.cureWork_posted (t : Tool) (r : Recipe) : s.Posted (s.cureWork t r) := by
  obtain ⟨_, _, _, e⟩ := s.judged_eq t r
  have decided := State.decideRelease_posted ((s.cureMoment.accumulate t r).judgeZones t) r
  rw [State.cureWork]
  rw [e] at decided ⊢
  exact decided

theorem State.changeQueue_posted (q : List ChargeEntry) : s.Posted (s.changeQueue q) := by
  unfold State.changeQueue
  split <;> exact .refl s

theorem State.changeRing_posted (r : Ring) : s.Posted (s.changeRing r) := by
  unfold State.changeRing
  split <;> exact .refl s

/-! ## The scale, the queue and the second advance -/

theorem State.captureOutcome_posted (p : Snapshot) : s.Posted (s.captureOutcome p) := by
  unfold State.captureOutcome
  split
  · exact State.post_posted (s.setScale _) _ _ _
  · split
    · exact State.post_posted (s.setScale _) _ _ _
    · exact (State.changeQueue_posted (s.setScale { s.scale.held with accept := true, nextCharge := succCharge s.chargeToGive })
        (s.queue ++ [s.admittedEntry p])).trans (State.post_posted _ _ _ _)

theorem State.finishMeasurement_posted (m : Measurement) : s.Posted (s.finishMeasurement m) := by
  unfold State.finishMeasurement
  dsimp only
  (repeat' split) <;> exact State.post_posted (s.setScale _) _ _ _

theorem State.actOnCapture_posted (before : LoadState) (c : Int) : s.Posted (s.actOnCapture before c) := by
  unfold State.actOnCapture
  split
  · exact .refl s
  · split
    · exact .refl s
    · split
      · exact s.captureOutcome_posted _
      · exact .refl s
  · split <;> exact .refl s
  · split
    · exact .refl s
    · unfold State.measure
      split
      · exact State.post_posted (s.setScale _) _ _ _
      · dsimp only
        split
        · exact s.finishMeasurement_posted _
        · exact .refl s

theorem State.sampleBridge_posted (count : BitVec 24) : s.Posted (s.sampleBridge count) :=
  State.actOnCapture_posted (s.bridgeMoment.setScale _) _ _

theorem State.expire_posted : s.Posted s.expire := by
  have posts : ∀ l : List ChargeEntry, s.Posted
      (l.foldl (fun t e => t.post .chargeExpired (.charge e.number) (some (e.cavity : Int))) s) := fun l =>
    List.foldlRecOn l _ (motive := fun t => s.Posted t) (.refl s) fun t posted _ _ => posted.trans (t.post_posted _ _ _)
  exact (posts (s.queue.filter (·.due s.clocks.run))).trans (State.changeQueue_posted _ _)

/-- The second advance, after the clocks have moved. -/
theorem State.advanceSecond_posted : (s.secondMoment.setClocks s.clocks.advanced).Posted s.advanceSecond := by
  unfold State.advanceSecond
  dsimp only
  split
  · exact .refl _
  · exact State.expire_posted _

/-! ## RESTART -/

theorem State.restartHeat_posted : s.Posted s.restartHeat :=
  (State.applyZones_posted (s.setDrive { s.drive with master := false }) _).after rfl rfl

theorem State.restartClose_posted : s.Posted s.restartClose := by
  have findings : s.Posted s.restartFindings := by
    obtain ⟨_, _, e⟩ := s.restartFindings_eq
    rw [e]
    exact .of_eq rfl rfl
  unfold State.restartClose
  split
  · exact findings.trans ((State.closeRecord_posted _).trans (State.promoteMounted_posted _) |>.after rfl rfl)
  · exact .refl s

theorem State.setWorkings_line : s.setWorkings.line = s.line := (s.setWorkings_posted).2

theorem State.enter_line (st : CycleState) : (s.enter st).line = s.line := rfl

theorem State.restartUnmount_line : s.restartUnmount.line = s.line := by
  rw [State.restartUnmount, State.enter_line, State.setWorkings_line]
  rfl

theorem State.restartNotices_line : s.restartNotices.line = s.line := rfl

/-- RESTART leaves what no rule of a block writes to. -/
theorem State.restartAct_line : s.restartAct.line = s.line := by
  rw [State.restartAct, State.restartNotices_line, State.restartUnmount_line, (State.restartClose_posted _).2,
    s.restartHeat_posted.2]

theorem State.setPort_line (p : Port) : (s.setPort p).line = (p, s.line.2) := rfl

theorem State.port_of_line {s t : State} (same : t.line = s.line) : t.port = s.port := congrArg (·.1) same

/-- The end of an answer writes to the port alone of these. -/
theorem State.answerSent_line : s.answerSent.line = (s.setPort s.port.answered).line := by
  unfold State.answerSent
  dsimp only
  split
  · rw [State.setPort_line, State.port_of_line s.restartAct_line, State.restartAct_line]
    rfl
  · rfl

end

end Sys2Proof.Machine
end

section
/-! PROOF. The RESET pin (R156), and what a property has to be shown for so that every event keeps it: the rule of each event,
in the states its row acts in; and the step that follows. -/

namespace Sys2Proof.Machine

/-! ## Events -/

/-- The events that are no rule of a block below the line: a reset, the rows of the line, and the second advance. -/
inductive LineRow : Instr → Prop
  | reset (held : Bool) : LineRow (.powerOnReset held)
  | bytes (l : List RxByte) : LineRow (.telegramDiscarded l)
  | sync : LineRow .syncByteReceived
  | gap : LineRow .interByteGapTimeout
  | answered : LineRow .answerSent
  | second : LineRow .secondAdvance
  | expiry : LineRow .chargeExpiry

/-- A property that the rule of every other event keeps, in the states in which its row carries the rule out. An
edge of E_STOP is given whole, since between the level and the zones nothing need hold. -/
structure KeptByRules (P : State → Prop) : Prop where
  inputs : ∀ s i, i.eStop = s.inputs.eStop ∧ i.resetPin = s.inputs.resetPin → P s → P (s.setInputs i)
  sample : ∀ s z r, P s → P (s.sampleZone z r)
  window : ∀ s, P s → P s.startWindow
  onTime : ∀ s z, P s → P (s.outputOff z)
  bridge : ∀ s c, P s → P (s.sampleBridge c)
  key : ∀ s, P s → P s.keyRequest
  captureFails : ∀ s p, s.scale.capture = .waiting → P s → P (s.failCapture p)
  stops : ∀ s, P s → P (((s.setInputs { s.inputs with eStop := true }).post .estop s.openSubject none).followZones.stopCycle)
  resumes : ∀ s, P s → P ((s.setInputs { s.inputs with eStop := false }).followZones.resumeCycle)
  closes : ∀ s, s.cycle.state = .loading → P s → P s.beginCure
  opensEarly : ∀ s, s.cycle.state = .curing → P s → P (s.markAborted .openedEarly).stopCure
  closeLate : ∀ s, s.cycle.state = .loading → P s → P s.timeOutClose
  cure : ∀ s t r, s.curing = some (t, r) → P s → P (s.cureWork t r)
  openLate : ∀ s, s.cycle.state = .release → P s → P s.postOverdue
  opens : ∀ s, P s → P s.leaveRelease
  forward : ∀ s, P s → P s.forwardReached
  permits : ∀ s, P s → P s.drivePermits
  back : ∀ s, P s → P s.backReached
  stalls : ∀ s, s.cycle.state = .ejecting → P s → P s.stall
  jams : ∀ s, s.cycle.state = .ejecting → P s → P s.jam
  takenOut : ∀ s, s.cycle.state = .takeout → P s → P s.closeCycle

/-- A property that a reset, the second advance and RESTART keep too. -/
structure KeptByEvents (P : State → Prop) : Prop extends KeptByRules P where
  reset : ∀ (s : State) held, P (s.powerOn held)
  resetHeld : ∀ s : State, P s.powerOnHeld
  restart : ∀ s, P s → P s.restartAct
  second : ∀ s, P s → P s.advanceSecond

/-- A row is a command's or one of the line, or it carries out a rule that leaves such a property, over the levels of the
inputs after it, unless RESET is held. -/
def Ruled (P : State → Prop) (s : State) (c : Instr) : Prop :=
  (commandRow c).isSome = true ∨ LineRow c
    ∨ ∃ i t, exec c s = .next ((s.setInputs i).unlessHeld t) ∧ i.resetPin = s.inputs.resetPin ∧ P t

/-- The row of a level's edge. -/
theorem Ruled.edge {P : State → Prop} {s t : State} {c : Instr} {i : Inputs} (done : P t)
    (row : exec c s = .next ((s.setInputs i).unlessHeld t)) (pin : i.resetPin = s.inputs.resetPin) : Ruled P s c :=
  .inr (.inr ⟨i, t, row, pin, done⟩)

/-- The row of any other event. -/
theorem Ruled.event {P : State → Prop} {s t : State} {c : Instr} (done : P t)
    (row : exec c s = .next (s.unlessHeld t)) : Ruled P s c := .edge (i := s.inputs) done row rfl

/-- Every row but the commands and those of the line carries out such a rule. -/
theorem KeptByRules.ruled {P : State → Prop} (events : KeptByRules P) (timers : ∀ s v, P s → P (s.setTimers v))
    {s : State} (before : P s) (c : Instr) : Ruled P s c := by
  have onlyWhere {p : Prop} [Decidable p] {t : State} (done : p → P t) : P (if p then t else s) :=
    iteInduction done fun _ => before
  have later {t : State} (moved : t = s.setTimers t.timers) : P t := moved ▸ timers s _ before
  have level (i : Inputs) (same : i.eStop = s.inputs.eStop ∧ i.resetPin = s.inputs.resetPin) := events.inputs s i same before
  have edge {t : State} (done : P t) (same : t.inputs = s.inputs) {i : Inputs} (stop : i.eStop = s.inputs.eStop)
      (pin : i.resetPin = s.inputs.resetPin) : P (t.setInputs i) := events.inputs t i (same.symm ▸ ⟨stop, pin⟩) done
  induction c
  case zoneSample z r => exact .event (events.sample s z r before) rfl
  case settleTimeReached z r | zoneFaultEntry z r | zoneRecovery z r =>
    exact .event (onlyWhere fun _ => events.sample s z r before) rfl
  case windowStart => exact .event (events.window s.windowMoment (later rfl)) rfl
  case onTimeEnd z => exact .event (onlyWhere fun _ => events.onTime (s.onTimeMoment z) z (later rfl)) rfl
  case bridgeSample n => exact .event (events.bridge s n before) rfl
  case captureComplete n | tareComplete n | spanComplete n => exact .event (onlyWhere fun _ => events.bridge s n before) rfl
  case captureKeyRising b => exact .edge (edge (i := { s.inputs with captureKey := b }) (events.key s before) s.keyRequest_posted.inputs rfl rfl) rfl rfl
  case captureTimeout =>
    refine .event ?_ rfl
    split
    next waiting _ => exact iteInduction (fun _ => before) fun _ => events.captureFails s.captureMoment _ waiting (later rfl)
    · exact before
  case eStopRising => exact .edge (events.stops s before) rfl rfl
  case eStopFalling => exact .edge (events.resumes s before) rfl rfl
  case pressClosedRising =>
    have moved := level { s.inputs with pressClosed := true } ⟨rfl, rfl⟩
    exact .edge (iteInduction (fun loading => events.closes _ loading moved) fun _ => moved) rfl rfl
  case pressClosedFalling =>
    have moved := level { s.inputs with pressClosed := false } ⟨rfl, rfl⟩
    exact .edge (iteInduction (fun curing => events.opensEarly _ curing moved) fun _ => moved) rfl rfl
  case closeTimeout => exact .event (onlyWhere fun loading => events.closeLate s loading before) rfl
  case cureSecond =>
    refine .event ?_ rfl
    split
    · exact before
    next curing => exact events.cure s _ _ curing before
  case maximumCureReached =>
    refine .event ?_ rfl
    split
    · exact before
    next curing => exact onlyWhere fun _ => events.cure s _ _ curing before
  case openOverdue => exact .event (onlyWhere fun releasing => events.openLate s releasing.1 before) rfl
  case pressOpenRising =>
    have moved := level { s.inputs with pressOpen := true } ⟨rfl, rfl⟩
    refine .edge (events.inputs _ _ ?_ (events.opens _ moved)) rfl rfl
    rw [(State.leaveRelease_posted _).inputs]
    exact ⟨rfl, rfl⟩
  case ejectAtFwdRising b =>
    exact .edge (edge (i := { s.inputs with ejectAtFwd := b }) (events.forward s before) s.forwardReached_posted.inputs rfl rfl) rfl rfl
  case ejectAtBackRising => exact .edge (events.back _ (events.permits _ (level { s.inputs with ejectAtBack := true } ⟨rfl, rfl⟩))) rfl rfl
  case ejectAtBackFalling => exact .edge (events.permits _ (level { s.inputs with ejectAtBack := false } ⟨rfl, rfl⟩)) rfl rfl
  case ejectStall => exact .event (onlyWhere fun extending => events.stalls s extending.1 before) rfl
  case ejectJam => exact .event (onlyWhere fun retracting => events.jams s retracting.1 before) rfl
  case takeoutClearRising b =>
    refine .edge (edge (i := { s.inputs with takeoutClear := b }) (onlyWhere fun takeout => events.takenOut s takeout before) ?_ rfl rfl) rfl rfl
    exact iteInduction (motive := fun t : State => t.inputs = s.inputs) (fun _ => s.closeCycle_posted.inputs) fun _ => rfl
  case powerOnReset | telegramDiscarded | syncByteReceived | interByteGapTimeout | answerSent | secondAdvance
      | chargeExpiry => exact .inr (.inl (by constructor))
  all_goals exact .inl rfl

/-- Every other event keeps such a property while RESET is released. -/
theorem KeptByRules.exec_rule {P : State → Prop} (events : KeptByRules P) (timers : ∀ s v, P s → P (s.setTimers v))
    {s : State} (before : P s) (pin : s.inputs.resetPin = false) {c : Instr} (row : commandRow c = none)
    (rule : ¬LineRow c) : ∃ t, exec c s = .next t ∧ P t := by
  obtain command | line | ⟨i, t, done, same, after⟩ := events.ruled timers before c
  · rw [row] at command
    cases command
  · exact absurd line rule
  · exact ⟨t, done.trans (congrArg _ ((s.setInputs i).unlessHeld_released t (same.trans pin))), after⟩

/-! ## While RESET is held -/

/-- What every state has, every event keeps. -/
theorem keptByRules_true : KeptByRules fun _ => True :=
  ⟨fun _ _ _ => id, fun _ _ _ => id, fun _ => id, fun _ _ => id, fun _ _ => id, fun _ => id, fun _ _ _ => id, fun _ => id,
    fun _ => id, fun _ _ => id, fun _ _ => id, fun _ _ => id, fun _ _ _ _ => id, fun _ _ => id, fun _ => id, fun _ => id,
    fun _ => id, fun _ => id, fun _ _ => id, fun _ _ => id, fun _ _ => id⟩

/-- While RESET is held a row but POWER_ON_RESET leaves all but the levels of the other inputs. -/
theorem exec_held {c : Instr} (other : ∀ b : Bool, c ≠ .powerOnReset b) {s : State} (pin : s.inputs.resetPin = true) :
    ∃ i : Inputs, exec c s = .next (s.setInputs i) ∧ i.resetPin = true := by
  have event {t : State} (row : exec c s = .next (s.unlessHeld t)) : ∃ i : Inputs, exec c s = .next (s.setInputs i) ∧ i.resetPin = true :=
    ⟨s.inputs, row.trans (congrArg _ (s.unlessHeld_held t pin)), pin⟩
  obtain command | line | ⟨i, t, row, same, _⟩ := keptByRules_true.ruled (fun _ _ => id) (s := s) trivial c
  · obtain ⟨⟨kind, guard, body⟩, row⟩ := Option.isSome_iff_exists.1 command
    refine ⟨s.inputs, ?_, pin⟩
    obtain done | done := exec_commandRow row s
    · rw [done, s.take_held kind guard _ pin]
      rfl
    · exact done
  · cases line with
    | reset b => exact absurd rfl (other b)
    | bytes l => exact ⟨s.inputs, congrArg _ (s.receiveAll_held l pin), pin⟩
    | sync => exact ⟨s.inputs, congrArg _ (s.receive_held _ pin), pin⟩
    | gap | answered | second | expiry => exact event rfl
  · exact ⟨i, row.trans (congrArg _ ((s.setInputs i).unlessHeld_held t (same.trans pin))), same.trans pin⟩

/-- Settles O13: the two resets are the reset state by definition, and while RESET is held no row but POWER_ON_RESET and no
ms acts. -/
theorem powerOnRestoresTheResetState : Obligations.PowerOnRestoresTheResetState := by
  refine fun s => ⟨rfl, rfl, fun pin => ⟨fun c other => exec_held other pin, fun none => ?_⟩⟩
  unfold step
  rw [none]
  exact congrArg _ (s.unlessHeld_held _ pin)

/-- What a row is shown to leave, the next state has. -/
theorem of_exec {Q : State → Prop} {c : Instr} {s t : State} (done : ∃ u, exec c s = .next u ∧ Q u) (next : exec c s = .next t) : Q t := by
  obtain ⟨u, done, after⟩ := done
  exact Host.Outcome.next.inj (done.symm.trans next) ▸ after

/-- The rows of the line but a reset, and the second advance: what bytes, the gap, the end of an answer and the second leave,
or no change. -/
theorem exec_line {P : State → Prop} {c : Instr} {s : State} (line : LineRow c) (other : ∀ b : Bool, c ≠ .powerOnReset b)
    (before : P s) (bytes : ∀ l, P (s.receiveAll l)) (sync : ∀ b, P (s.receive b)) (gap : P s.gapMoment.hunt)
    (answered : P s.answerSent) (second : c = .secondAdvance ∨ c = .chargeExpiry → P s.advanceSecond) :
    ∃ t, exec c s = .next t ∧ P t := by
  have event {t : State} (done : P t) : P (s.unlessHeld t) := State.unlessHeld_holds (fun _ => before) done
  cases line with
  | reset b => exact absurd rfl (other b)
  | bytes l => exact ⟨_, rfl, bytes l⟩
  | sync => exact ⟨_, rfl, sync _⟩
  | gap =>
    refine ⟨_, rfl, event ?_⟩
    split
    · exact before
    · exact gap
  | answered => exact ⟨_, rfl, event (iteInduction (fun _ => answered) fun _ => before)⟩
  | second => exact ⟨_, rfl, event (second (.inl rfl))⟩
  | expiry => exact ⟨_, rfl, event (iteInduction (fun _ => second (.inr rfl)) fun _ => before)⟩

namespace KeptByEvents

variable {P : State → Prop} (commands : KeptByCommands P) (events : KeptByEvents P) {s : State}
include commands events

/-- The end of an answer, RESTART's among them (R150, R154). -/
theorem answerSent (before : P s) : P s.answerSent := by
  refine commands.port _ _ ?_
  split
  · exact events.restart s before
  · exact before

/-- Every event but a reset keeps such a property while RESET is released. -/
theorem exec_event (before : P s) (pin : s.inputs.resetPin = false) {c : Instr} (row : commandRow c = none)
    (other : ∀ b : Bool, c ≠ .powerOnReset b) : ∃ t, exec c s = .next t ∧ P t := by
  by_cases line : LineRow c
  · exact exec_line line other before (commands.receiveAll before) (commands.receive before)
      (commands.port _ _ (commands.timers _ _ before)) (answerSent commands events before) fun _ => events.second s before
  · exact events.toKeptByRules.exec_rule commands.timers before pin row line

/-- So every step keeps what such a property implies, if that outlasts the moves of input levels while RESET is held
(R156). -/
theorem step {Q : State → Prop} (implied : ∀ u, P u → Q u) {t : State} (before : ∀ q, P (s.setPending q))
    (held : s.inputs.resetPin = true → ∀ q i, Q ((s.setPending q).setInputs i)) (next : step s = .next t) : Q t := by
  unfold Machine.step at next
  split at next
  · obtain rfl := Host.Outcome.next.inj next
    exact implied _ (State.unlessHeld_holds (fun _ => s.setPending_self ▸ before s.pending)
      (commands.timers s _ (s.setPending_self ▸ before s.pending)))
  next c rest _ =>
    by_cases reset : ∃ b : Bool, c = .powerOnReset b
    · obtain ⟨b, rfl⟩ := reset
      obtain rfl := Host.Outcome.next.inj next
      cases b
      · exact implied _ (events.reset _ _)
      · exact implied _ (events.resetHeld _)
    cases pin : s.inputs.resetPin
    · refine implied t (of_exec ?_ next)
      cases row : commandRow c with
      | none => exact exec_event commands events (before rest) pin row fun b e => reset ⟨b, e⟩
      | some telegram => exact commands.exec_row (before rest) row
    · obtain ⟨i, done, _⟩ := exec_held (s := s.setPending rest) (fun b e => reset ⟨b, e⟩) pin
      exact Host.Outcome.next.inj (done.symm.trans next) ▸ held pin rest i

omit commands events in
/-- Two properties kept by every event are kept together. -/
theorem and {P Q : State → Prop} (p : KeptByEvents P) (q : KeptByEvents Q) :
    KeptByEvents (fun s => P s ∧ Q s) where
  reset s held := ⟨p.reset s held, q.reset s held⟩
  resetHeld s := ⟨p.resetHeld s, q.resetHeld s⟩
  inputs s i same h := ⟨p.inputs s i same h.1, q.inputs s i same h.2⟩
  restart s h := ⟨p.restart s h.1, q.restart s h.2⟩
  second s h := ⟨p.second s h.1, q.second s h.2⟩
  sample s z r h := ⟨p.sample s z r h.1, q.sample s z r h.2⟩
  window s h := ⟨p.window s h.1, q.window s h.2⟩
  onTime s z h := ⟨p.onTime s z h.1, q.onTime s z h.2⟩
  bridge s c h := ⟨p.bridge s c h.1, q.bridge s c h.2⟩
  key s h := ⟨p.key s h.1, q.key s h.2⟩
  captureFails s c waiting h := ⟨p.captureFails s c waiting h.1, q.captureFails s c waiting h.2⟩
  stops s h := ⟨p.stops s h.1, q.stops s h.2⟩
  resumes s h := ⟨p.resumes s h.1, q.resumes s h.2⟩
  closes s loading h := ⟨p.closes s loading h.1, q.closes s loading h.2⟩
  opensEarly s curing h := ⟨p.opensEarly s curing h.1, q.opensEarly s curing h.2⟩
  closeLate s loading h := ⟨p.closeLate s loading h.1, q.closeLate s loading h.2⟩
  cure s t r curing h := ⟨p.cure s t r curing h.1, q.cure s t r curing h.2⟩
  openLate s release h := ⟨p.openLate s release h.1, q.openLate s release h.2⟩
  opens s h := ⟨p.opens s h.1, q.opens s h.2⟩
  forward s h := ⟨p.forward s h.1, q.forward s h.2⟩
  permits s h := ⟨p.permits s h.1, q.permits s h.2⟩
  back s h := ⟨p.back s h.1, q.back s h.2⟩
  stalls s ejecting h := ⟨p.stalls s ejecting h.1, q.stalls s ejecting h.2⟩
  jams s ejecting h := ⟨p.jams s ejecting h.1, q.jams s ejecting h.2⟩
  takenOut s takeout h := ⟨p.takenOut s takeout h.1, q.takenOut s takeout h.2⟩

end KeptByEvents

end Sys2Proof.Machine
end

section
/-! PROOF. What no command touches (R153), and the soundness of the port and the notice queue (R149, R150, R154, R156). -/

namespace Sys2Proof.Machine

/-! ## What the rule of a command leaves -/

/-- What every command leaves alone, and the notice queue that it keeps sound. -/
structure Quiet (s t : State) : Prop where
  pending : t.pending = s.pending
  pin : t.inputs.resetPin = s.inputs.resetPin
  run : t.clocks.run = s.clocks.run
  notices : NoticeInv s → NoticeInv t

/-- What the rule of a command leaves alone besides: what the port is receiving. -/
structure Obeyed (s t : State) : Prop extends Quiet s t where
  receive : t.port.receive = s.port.receive

section
variable {s t : State}

theorem Quiet.refl (s : State) : Quiet s s := ⟨rfl, rfl, rfl, id⟩

theorem Quiet.trans {u : State} (first : Quiet s t) (second : Quiet t u) : Quiet s u :=
  ⟨second.pending.trans first.pending, second.pin.trans first.pin, second.run.trans first.run,
    fun inv => second.notices (first.notices inv)⟩

theorem State.Posted.quiet (posted : s.Posted t) : Quiet s t :=
  ⟨posted.pending, by rw [posted.inputs], by rw [posted.clocks], fun inv => inv.posted posted⟩

theorem State.Posted.obeyed (posted : s.Posted t) : Obeyed s t := ⟨posted.quiet, by rw [posted.port]⟩

theorem Obeyed.refl (s : State) : Obeyed s s := (State.Posted.refl s).obeyed

/-- READ NOTICES leaves a queue that is sound (R157). -/
theorem NoticeInv.reported (inv : NoticeInv s) : NoticeInv (s.setNotices s.notices.reported) where
  places := by
    have := inv.places
    simp [NoticeQueue.reported, NoticeQueue.driven]
    omega
  attn := rfl

end

/-- The rule of a command leaves them alone, and keeps the notice queue sound. -/
theorem Effect.obeyed {s t : State} (effect : Effect s t) : Obeyed s t := by
  have posted {u : State} (posted : s.Posted u) : Obeyed s u := posted.obeyed
  induction effect
  case notices => exact ⟨⟨rfl, rfl, rfl, NoticeInv.reported⟩, rfl⟩
  case clock | restart => exact ⟨⟨rfl, rfl, rfl, fun inv => inv.of_eq rfl⟩, rfl⟩
  case stage i t r _ _ _ => exact posted (.trans (t := s.stage i r) (.refl s) (State.dispose_posted _ _))
  case mount i _ _ _ _ _ => exact posted (s.mountSlot_posted i)
  case unmount => exact posted s.unmountTool_posted
  case configure z _ => exact posted (s.configureZone_posted z _)
  case heat on => exact posted (s.setMaster_posted on)
  case discard q => exact posted (s.changeQueue_posted q)
  case release | serial => exact posted (s.changeRing_posted _)
  case abort => exact posted s.abortCycle_posted
  case abandon => exact posted s.abandon_posted
  all_goals exact posted (.refl s)

/-! ## What no row touches but a reset and the second advance -/

theorem State.of_line {s t : State} (same : t.line = s.line) :
    t.pending = s.pending ∧ t.inputs.resetPin = s.inputs.resetPin ∧ t.clocks.run = s.clocks.run :=
  ⟨congrArg (·.2.2.2) same, congrArg (·.2.2.1.resetPin) same, congrArg (·.2.1.run) same⟩

/-- The run seconds of t are those of s, or a second advance has counted one. -/
def runCounted (c : Instr) (s t : State) : Prop :=
  t.clocks.run = s.clocks.run
    ∨ ((c = .secondAdvance ∨ c = .chargeExpiry) ∧ s.clocks.run < 4294967295 ∧ t.clocks.run = s.clocks.run + 1)

theorem runCounted_advanceSecond {c : Instr} (second : c = .secondAdvance ∨ c = .chargeExpiry) (s : State) :
    runCounted c s s.advanceSecond := by
  change s.advanceSecond.clocks.run = _ ∨ _
  rw [s.advanceSecond_posted.clocks]
  change (if s.clocks.run < 4294967295 then _ else _) = _ ∨ _ ∧ _ ∧ (if s.clocks.run < 4294967295 then _ else _) = _
  split
  next counts => exact .inr ⟨second, counts, rfl⟩
  · exact .inl rfl

/-- What the telegrams and bytes of a state leave. -/
theorem keptByCommands_quiet (s : State) : KeptByCommands (Quiet s) :=
  .of_effects (fun _ _ quiet => quiet.trans ⟨rfl, rfl, rfl, fun inv => inv.of_eq rfl⟩)
    (fun _ _ quiet => quiet.trans ⟨rfl, rfl, rfl, fun inv => inv.of_eq rfl⟩) fun _ _ effect quiet => quiet.trans effect.obeyed.toQuiet

/-- What the rules of the events leave: the port too. -/
theorem keptByRules_quiet (s : State) : KeptByRules fun t => Quiet s t ∧ t.port = s.port := by
  have posted {t u : State} (posted : t.Posted u) (same : Quiet s t ∧ t.port = s.port) : Quiet s u ∧ u.port = s.port :=
    ⟨same.1.trans posted.quiet, posted.port.trans same.2⟩
  have edge {t : State} (i : Inputs) (pin : i.resetPin = t.inputs.resetPin) (same : Quiet s t ∧ t.port = s.port) :
      Quiet s (t.setInputs i) ∧ (t.setInputs i).port = s.port :=
    ⟨same.1.trans ⟨rfl, pin, rfl, fun inv => inv.of_eq rfl⟩, same.2⟩
  exact {
    inputs := fun t i level => edge i level.2
    sample := fun t z r => posted (t.sampleZone_posted z r)
    window := fun t => posted (.refl t)
    onTime := fun t z => posted (.refl t)
    bridge := fun t c => posted (t.sampleBridge_posted c)
    key := fun t => posted t.keyRequest_posted
    captureFails := fun t p _ => posted (State.post_posted (t.setScale _) _ _ _)
    stops := fun t same => posted ((State.post_posted _ _ _ _).trans ((State.followZones_posted _).trans
      (State.stopCycle_posted _))) (edge { t.inputs with eStop := true } rfl same)
    resumes := fun t same => posted ((State.followZones_posted _).trans (State.resumeCycle_posted _))
      (edge { t.inputs with eStop := false } rfl same)
    closes := fun t _ => posted (.refl t)
    opensEarly := fun t _ => posted (State.stopCure_posted (t.markAborted _))
    closeLate := fun t _ => posted t.timeOutClose_posted
    cure := fun t u r _ => posted (t.cureWork_posted u r)
    openLate := fun t _ => posted t.postOverdue_posted
    opens := fun t => posted t.leaveRelease_posted
    forward := fun t => posted t.forwardReached_posted
    permits := fun t => posted (.refl t)
    back := fun t => posted t.backReached_posted
    stalls := fun t _ => posted t.stall_posted
    jams := fun t _ => posted t.jam_posted
    takenOut := fun t _ => posted t.closeCycle_posted }

theorem timersKept_quiet {s : State} (t : State) (v : Timers) (same : Quiet s t ∧ t.port = s.port) :
    Quiet s (t.setTimers v) ∧ (t.setTimers v).port = s.port :=
  ⟨same.1.trans ⟨rfl, rfl, rfl, fun inv => inv.of_eq rfl⟩, same.2⟩

section
variable {c : Instr} {s : State}

/-- What no row but a reset writes to: queue and pin, and but for the second advance the run seconds. -/
def Undisturbed (c : Instr) (s t : State) : Prop :=
  t.pending = s.pending ∧ t.inputs.resetPin = s.inputs.resetPin ∧ runCounted c s t

theorem Quiet.undisturbed {t : State} (quiet : Quiet s t) : Undisturbed c s t := ⟨quiet.pending, quiet.pin, .inl quiet.run⟩

theorem exec_undisturbed (other : ∀ b : Bool, c ≠ .powerOnReset b) (s : State) : ∃ t, exec c s = .next t ∧ Undisturbed c s t := by
  have quiet := keptByCommands_quiet s
  have begun := Quiet.refl s
  cases row : commandRow c with
  | some telegram =>
    obtain ⟨t, done, quiet⟩ := quiet.exec_row begun row
    exact ⟨t, done, quiet.undisturbed⟩
  | none =>
    by_cases line : LineRow c
    · obtain ⟨pending, same, run⟩ := State.of_line s.answerSent_line
      exact exec_line line other begun.undisturbed (fun l => (quiet.receiveAll begun l).undisturbed)
        (fun b => (quiet.receive begun b).undisturbed) ⟨rfl, rfl, .inl rfl⟩ ⟨pending, same, .inl run⟩ fun second =>
          ⟨s.advanceSecond_posted.pending, congrArg (·.resetPin) s.advanceSecond_posted.inputs, runCounted_advanceSecond second s⟩
    · cases pin : s.inputs.resetPin
      · obtain ⟨t, done, quiet, _⟩ := (keptByRules_quiet s).exec_rule timersKept_quiet ⟨.refl s, rfl⟩ pin row line
        exact ⟨t, done, quiet.undisturbed⟩
      · obtain ⟨i, done, held⟩ := exec_held other pin
        exact ⟨_, done, rfl, held.trans pin.symm, .inl rfl⟩

end

/-- Settles O2: a command's own rule writes to neither, and of the events only a reset and the second advance write to the
run seconds. -/
theorem queueAndRunSecondsAreLeftAlone : Obligations.QueueAndRunSecondsAreLeftAlone := by
  intro c s t next
  by_cases reset : ∃ b : Bool, c = .powerOnReset b
  · obtain ⟨b, rfl⟩ := reset
    obtain rfl := Host.Outcome.next.inj next
    exact ⟨by cases b <;> rfl, fun other => absurd rfl (other b)⟩
  · obtain ⟨pending, _, run⟩ := of_exec (exec_undisturbed (fun b e => reset ⟨b, e⟩) s) next
    exact ⟨pending, fun _ => run⟩

/-! ## The soundness of the line -/

/-- The invariants of the port and of the notice queue together. -/
structure LineInv (s : State) : Prop where
  port : PortInv s
  notices : NoticeInv s

section
variable {s t : State}

theorem PortInv.of_eq (inv : PortInv s) (same : t.port = s.port) : PortInv t :=
  ⟨same ▸ inv.partly, same ▸ inv.owed, same ▸ inv.restart⟩

/-- A port that receives in another way stays sound where what it has received so far is a telegram still incomplete. -/
theorem PortInv.receiving (inv : PortInv s) {r : Receive} (port : t.port = { s.port with receive := r })
    (partly : r.partly) : PortInv t :=
  ⟨port ▸ partly, port ▸ inv.owed, port ▸ inv.restart⟩

/-- What bytes leave of a telegram that is not complete is still incomplete (R149). -/
def Received.Partly : Received → Prop
  | .goesOn r => r.partly
  | .complete _ _ _ => True

theorem judgeTelegram_partly (length : Byte) (rest : List Byte) : (judgeTelegram length rest).Partly := by
  unfold judgeTelegram
  generalize rest.take length.toNat = content
  refine iteInduction (motive := Received.Partly) (fun _ => ?_) fun _ => trivial
  cases content with
  | nil => trivial
  | cons kind rest => cases rest <;> trivial

theorem judgeBuffer_partly (buffer : List Byte) : (judgeBuffer buffer).Partly := by
  cases buffer with
  | nil => trivial
  | cons length rest =>
    refine iteInduction (motive := Received.Partly) (fun _ => trivial) fun bounds => ?_
    obtain ⟨low, high⟩ := not_or.1 bounds
    exact iteInduction (motive := Received.Partly) (fun short => ⟨Nat.le_of_not_lt low, Nat.le_of_not_lt high, short⟩) fun _ =>
      judgeTelegram_partly length rest

theorem receiveByte_partly (r : Receive) (b : RxByte) : (receiveByte r b).Partly := by
  refine iteInduction (motive := Received.Partly) (fun _ => trivial) fun _ => ?_
  cases r with
  | hunting => exact iteInduction (motive := Receive.partly) (fun _ => trivial) fun _ => trivial
  | receiving buffer => exact judgeBuffer_partly _

end

/-! ### Commands -/

/-- Taking a telegram: its answer is composed and owed (R150), so RESTART may wait to act (R154). -/
theorem State.take_lineInv {s : State} (inv : LineInv s) (kind guard : Byte) (body : List Byte) :
    LineInv (s.take kind guard (commandOf kind body)) := by
  have hunting : PortInv s.hunt := inv.port.receiving rfl trivial
  cases pin : s.inputs.resetPin
  · cases owed : s.port.answerOwed
    · rw [s.take_judged kind guard _ pin owed]
      obtain same | ⟨f, named, same⟩ := s.hunt.judge_cases guard (commandOf kind body) <;> rw [same]
      · exact ⟨⟨trivial, rfl, fun _ => rfl⟩, inv.notices.of_eq rfl⟩
      · obtain ⟨⟨_, _, _, kept⟩, receive⟩ := (commandOf_effect s.hunt body named).obeyed
        have notices := kept (inv.notices.of_eq rfl)
        exact ⟨⟨receive ▸ hunting.partly, rfl, fun _ => rfl⟩, notices.of_eq rfl⟩
    · rw [s.take_owed kind guard _ pin owed]
      exact ⟨hunting, inv.notices.of_eq rfl⟩
  · rwa [s.take_held kind guard _ pin]

theorem State.receive_lineInv {s : State} (inv : LineInv s) (b : RxByte) : LineInv (s.receive b) := by
  refine State.unlessHeld_holds (fun _ => inv) ?_
  have partly := receiveByte_partly s.receiveState b
  generalize receiveByte s.receiveState b = received at partly ⊢
  cases received with
  | goesOn r => exact ⟨inv.port.receiving (t := (s.setTimers _).setPort _) rfl partly, inv.notices.of_eq rfl⟩
  | complete => exact State.take_lineInv (s := s.setTimers { s.timers with gap := 0 }) ⟨inv.port.of_eq rfl, inv.notices.of_eq rfl⟩ _ _ _

/-! ### Events -/

/-- RESTART leaves RESTARTED alone in the queue (R154). -/
theorem State.restartAct_noticeInv (s : State) : NoticeInv s.restartAct := ⟨show 1 ≤ 16 by decide, rfl⟩

theorem State.reset_lineInv (s : State) (held : Bool) : LineInv (if held then s.powerOnHeld else s.powerOn false) := by
  cases held
  · exact ⟨⟨trivial, rfl, nofun⟩, ⟨show 1 ≤ 16 by decide, rfl⟩⟩
  · exact ⟨⟨trivial, rfl, nofun⟩, ⟨show 0 ≤ 16 by decide, rfl⟩⟩

/-- The end of an answer clears what is owed (R150). -/
theorem State.answerSent_lineInv {s : State} (inv : LineInv s) : LineInv s.answerSent := by
  have port : s.answerSent.port = s.port.answered := State.port_of_line s.answerSent_line
  refine ⟨⟨port ▸ inv.port.partly, port ▸ rfl, fun taken => ?_⟩, ?_⟩
  · rw [port] at taken
    cases taken
  · unfold State.answerSent
    dsimp only
    split
    · exact (State.restartAct_noticeInv s).of_eq rfl
    · exact inv.notices.of_eq rfl

section
variable {s : State}

/-- Every command row and every event keeps the port and the notice queue sound. -/
theorem exec_lineInv {t : State} {c : Instr} (inv : LineInv s) (next : exec c s = .next t) : LineInv t := by
  refine of_exec ?_ next
  cases row : commandRow c with
  | some telegram =>
    obtain ⟨kind, guard, body⟩ := telegram
    obtain done | done := exec_commandRow row s
    · exact ⟨_, done, State.take_lineInv inv kind guard body⟩
    · exact ⟨s, done, inv⟩
  | none =>
    by_cases reset : ∃ b : Bool, c = .powerOnReset b
    · obtain ⟨b, rfl⟩ := reset
      exact ⟨_, rfl, State.reset_lineInv s b⟩
    have other : ∀ b : Bool, c ≠ .powerOnReset b := fun b e => reset ⟨b, e⟩
    by_cases line : LineRow c
    · refine exec_line line other inv (fun l => List.foldlRecOn l State.receive inv fun _ inv b _ => State.receive_lineInv inv b)
        (State.receive_lineInv inv) ?_ (State.answerSent_lineInv inv) fun _ => ?_
      · exact ⟨inv.port.receiving (t := s.gapMoment.hunt) rfl trivial, inv.notices.of_eq rfl⟩
      · exact ⟨inv.port.of_eq s.advanceSecond_posted.port,
          NoticeInv.posted (s := s.secondMoment.setClocks s.clocks.advanced) (inv.notices.of_eq rfl) s.advanceSecond_posted⟩
    · cases pin : s.inputs.resetPin
      · obtain ⟨t, done, same⟩ := (keptByRules_quiet s).exec_rule timersKept_quiet ⟨.refl s, rfl⟩ pin row line
        exact ⟨t, done, inv.port.of_eq same.2, same.1.notices inv.notices⟩
      · obtain ⟨i, done, _⟩ := exec_held other pin
        exact ⟨_, done, inv.port.of_eq rfl, inv.notices.of_eq rfl⟩

/-- While RESET is held the part stays in its reset state: a row but POWER_ON_RESET moves input levels alone, and none
asserts the pin (R156). -/
theorem exec_heldInv {t : State} {c : Instr} (held : HeldInv s) (next : exec c s = .next t) : HeldInv t := by
  by_cases reset : ∃ b : Bool, c = .powerOnReset b
  · obtain ⟨b, rfl⟩ := reset
    obtain rfl := Host.Outcome.next.inj next
    cases b
    · nofun
    · exact fun _ => rfl
  have other : ∀ b : Bool, c ≠ .powerOnReset b := fun b e => reset ⟨b, e⟩
  cases pin : s.inputs.resetPin
  · obtain ⟨_, same, _⟩ := of_exec (exec_undisturbed other s) next
    exact fun asserted => absurd ((same.trans pin).symm.trans asserted) Bool.false_ne_true
  · obtain ⟨i, done, _⟩ := exec_held other pin
    obtain rfl := Host.Outcome.next.inj (done.symm.trans next)
    exact fun _ => congrArg (State.setInputs · i) (held pin)

end

/-- Settles O51: a telegram that is taken leaves its answer composed and owed, what a byte leaves of a telegram is still
incomplete, every post keeps the notice queue sound, and while RESET is held only input levels move. -/
theorem everyStepKeepsTheLineSound : Obligations.EveryStepKeepsTheLineSound := by
  intro s t port notices held next
  unfold step at next
  split at next
  · obtain rfl := Host.Outcome.next.inj next
    cases pin : s.inputs.resetPin
    · rw [s.unlessHeld_released _ pin]
      exact ⟨port.of_eq rfl, notices.of_eq rfl, fun asserted => absurd (pin.symm.trans asserted) Bool.false_ne_true⟩
    · rw [s.unlessHeld_held _ pin]
      exact ⟨port, notices, held⟩
  next c rest _ =>
    have line : LineInv (s.setPending rest) := ⟨port.of_eq rfl, notices.of_eq rfl⟩
    have pinned : HeldInv (s.setPending rest) := fun pin => congrArg (State.setPending · rest) (held pin)
    obtain ⟨port, notices⟩ := exec_lineInv line next
    exact ⟨port, notices, exec_heldInv pinned next⟩

end Sys2Proof.Machine
end

section
/-! PROOF. The charge scale stays sound (R59, R74 to R76): the scale alone is spoken of, and each operation on it ends what it
found in progress or begins one thing in IDLE. -/

namespace Sys2Proof.Machine

/-! ## The view -/

/-- What `ScaleInv` says, of the scale alone. -/
structure Scale.Sound (k : Scale) : Prop where
  waiting : k.capture = .waiting ↔ k.snapshot.isSome = true
  measuring : k.capture = .measuring ↔ k.measurement.isSome = true
  lamps : k.accept = true ∨ k.reject = true → k.capture = .held
  oneLamp : ¬(k.accept = true ∧ k.reject = true)
  taken : ∀ m, k.measurement = some m → m.taken < 16
  span : 1 ≤ k.span ∧ k.span ≤ 262143
  stability : k.stabilityTimer ≤ 5000
  charge : 1 ≤ k.nextCharge ∧ k.nextCharge ≤ 65535

theorem scaleInv_iff (s : State) : ScaleInv s ↔ s.scale.Sound :=
  ⟨fun ⟨a, b, c, d, e, f, g, h⟩ => ⟨a, b, c, d, e, f, g, h⟩, fun ⟨a, b, c, d, e, f, g, h⟩ => ⟨a, b, c, d, e, f, g, h⟩⟩

theorem ScaleInv.of_eq {s t : State} (inv : ScaleInv s) (same : t.scale = s.scale) : ScaleInv t := by
  rw [scaleInv_iff, same]
  exact (scaleInv_iff s).1 inv

theorem succCharge_range (n : Nat) : 1 ≤ succCharge n ∧ succCharge n ≤ 65535 := by
  unfold succCharge Config.max16
  split <;> omega

/-! ## The operations on a scale -/

/-- A sample's own work writes the reference, the stability timer and the load state alone, and the timer holds at 5000 ms
(R59 to R63). -/
theorem Scale.weigh_figures (k : Scale) (c : Int) : ∃ reference timer load,
    k.weigh c = { k with reference := reference, stabilityTimer := timer, load := load }
      ∧ (k.stabilityTimer ≤ 5000 → timer ≤ 5000) := by
  unfold Scale.weigh
  split
  · exact ⟨_, _, _, rfl, fun _ => Nat.zero_le _⟩
  · unfold Scale.stabilise
    split
    · exact ⟨_, _, _, rfl, fun _ => Nat.zero_le _⟩
    · exact ⟨_, _, _, rfl, fun _ => Nat.min_le_left _ _⟩

namespace Scale.Sound

variable {k : Scale} (sound : k.Sound)
include sound

theorem lampsOff (active : k.capture ≠ .held) : k.accept = false ∧ k.reject = false :=
  ⟨by simpa using fun on => active (sound.lamps (.inl on)), by simpa using fun on => active (sound.lamps (.inr on))⟩

theorem noSnapshot (other : k.capture ≠ .waiting) : k.snapshot = none := by
  simpa using mt sound.waiting.2 other

theorem noMeasurement (other : k.capture ≠ .measuring) : k.measurement = none := by
  simpa using mt sound.measuring.2 other

/-- The sample's own work leaves what is in progress, and the timer holds at 5000 ms (R59, R62). -/
theorem weigh (c : Int) : (k.weigh c).Sound := by
  obtain ⟨reference, timer, load, weighed, holds⟩ := k.weigh_figures c
  rw [weighed]
  exact ⟨sound.waiting, sound.measuring, sound.lamps, sound.oneLamp, sound.taken, sound.span, holds sound.stability, sound.charge⟩

/-- A capture that has waited ends HELD with one lamp on (R70, R72). -/
theorem endCapture (waiting : k.capture = .waiting) (admitted : Bool) {n : Nat} (charge : 1 ≤ n ∧ n ≤ 65535) :
    { k.held with accept := admitted, reject := !admitted, nextCharge := n }.Sound where
  waiting := by simp [Scale.held]
  measuring := by simp [Scale.held, sound.noMeasurement (by simp [waiting])]
  lamps := fun _ => rfl
  oneLamp := by simp
  taken := sound.taken
  span := sound.span
  stability := sound.stability
  charge := charge

/-- The pan has been cleared, and HELD ends with both lamps off (R74). -/
theorem cleared (held : k.capture = .held) : k.cleared.Sound where
  waiting := by simp [Scale.cleared, sound.noSnapshot (by simp [held])]
  measuring := by simp [Scale.cleared, sound.noMeasurement (by simp [held])]
  lamps := by simp [Scale.cleared]
  oneLamp := by simp [Scale.cleared]
  taken := sound.taken
  span := sound.span
  stability := sound.stability
  charge := sound.charge

/-- A capture begins in IDLE (R68). -/
theorem beginCapture (idle : k.capture = .idle) (p : Snapshot) : { k with capture := .waiting, snapshot := some p }.Sound where
  waiting := by simp
  measuring := by simp [sound.noMeasurement (by simp [idle])]
  lamps := by simp [sound.lampsOff (by simp [idle])]
  oneLamp := sound.oneLamp
  taken := sound.taken
  span := sound.span
  stability := sound.stability
  charge := sound.charge

/-- A waiting capture is cancelled (R71). -/
theorem cancel (waiting : k.capture = .waiting) : { k with capture := .idle, snapshot := none }.Sound where
  waiting := by simp
  measuring := by simp [sound.noMeasurement (by simp [waiting])]
  lamps := by simp [sound.lampsOff (by simp [waiting])]
  oneLamp := sound.oneLamp
  taken := sound.taken
  span := sound.span
  stability := sound.stability
  charge := sound.charge

/-- A measurement begins in IDLE or takes one more count (R75). -/
theorem measure (ready : k.capture = .idle ∨ k.capture = .measuring) {m : Measurement} (taken : m.taken < 16) :
    { k with capture := .measuring, measurement := some m }.Sound where
  waiting := by
    obtain idle | measuring := ready
    · simp [sound.noSnapshot (by simp [idle])]
    · simp [sound.noSnapshot (by simp [measuring])]
  measuring := by simp
  lamps := by
    obtain idle | measuring := ready
    · simp [sound.lampsOff (by simp [idle])]
    · simp [sound.lampsOff (by simp [measuring])]
  oneLamp := sound.oneLamp
  taken := by
    rintro _ ⟨⟩
    exact taken
  span := sound.span
  stability := sound.stability
  charge := sound.charge

/-- A measurement ends in IDLE, with a span factor in its range (R75, R76). -/
theorem endMeasurement (measuring : k.capture = .measuring) (zero : Int) {span : Int} (range : 1 ≤ span ∧ span ≤ 262143) :
    { k with zero := zero, span := span, measurement := none, capture := .idle }.Sound where
  waiting := by simp [sound.noSnapshot (by simp [measuring])]
  measuring := by simp
  lamps := by simp [sound.lampsOff (by simp [measuring])]
  oneLamp := sound.oneLamp
  taken := nofun
  span := range
  stability := sound.stability
  charge := sound.charge

/-- The station and the arming record are no part of it (R65, R66). -/
theorem configured (station : Station) (arming : Option Arming) : { k with station := station, arming := arming }.Sound :=
  ⟨sound.waiting, sound.measuring, sound.lamps, sound.oneLamp, sound.taken, sound.span, sound.stability, sound.charge⟩

/-- RESTART ends all that is in progress (R77). -/
theorem restarted : k.restarted.Sound where
  waiting := by simp [Scale.restarted]
  measuring := by simp [Scale.restarted]
  lamps := by simp [Scale.restarted]
  oneLamp := by simp [Scale.restarted]
  taken := nofun
  span := sound.span
  stability := sound.stability
  charge := sound.charge

end Scale.Sound

theorem Scale.sound_reset : Scale.reset.Sound where
  waiting := by decide
  measuring := by decide
  lamps := by decide
  oneLamp := by decide
  taken := nofun
  span := by decide
  stability := by decide
  charge := by decide

/-! ## The operations of the part -/

section
variable {s : State} (sound : s.scale.Sound)
include sound

theorem State.captureOutcome_scale (waiting : s.scale.capture = .waiting) (p : Snapshot) :
    (s.captureOutcome p).scale.Sound := by
  obtain ⟨accept, reject⟩ := sound.lampsOff (by simp [waiting])
  have refused (kind : NoticeKind) : (s.notAdmit kind p).scale.Sound := by
    simpa [State.notAdmit, Scale.held, accept] using sound.endCapture waiting false sound.charge
  have admitted : (s.admitCharge p).scale.Sound := by
    simpa [State.admitCharge, Scale.held, reject] using sound.endCapture waiting true (succCharge_range s.chargeToGive)
  unfold State.captureOutcome
  split
  · exact refused _
  · split
    · exact refused _
    · exact admitted

theorem State.endMeasurement_scale (measuring : s.scale.capture = .measuring) (zero : Int) {span : Int}
    (range : 1 ≤ span ∧ span ≤ 262143) (kind : NoticeKind) (value : Int) :
    (s.endMeasurement zero span kind value).scale.Sound := sound.endMeasurement measuring zero range

theorem State.finishMeasurement_scale (measuring : s.scale.capture = .measuring) (m : Measurement) :
    (s.finishMeasurement m).scale.Sound := by
  have ends {zero span : Int} (range : 1 ≤ span ∧ span ≤ 262143) (kind : NoticeKind) (value : Int) :=
    State.endMeasurement_scale sound measuring zero range kind value
  unfold State.finishMeasurement
  split
  · exact ends sound.span _ _
  · dsimp only
    split
    · exact ends sound.span _ _
    · split
      · exact ends sound.span _ _
      next factor =>
        refine ends ?_ _ _
        unfold Config.maxSpan at factor
        omega

theorem State.measure_scale (measuring : s.scale.capture = .measuring) (c : Int) (m : Measurement) :
    (s.measure c m).scale.Sound := by
  unfold State.measure
  split
  · exact State.endMeasurement_scale sound measuring _ sound.span _ _
  · dsimp only
    split
    · exact State.finishMeasurement_scale sound measuring _
    next more =>
      have next : m.taken + 1 < 16 := Nat.lt_of_not_le more
      have kept := sound.measure (m := { m with taken := m.taken + 1, sum := m.sum + c }) (.inr measuring) next
      rwa [← measuring] at kept

theorem State.actOnCapture_scale (before : LoadState) (c : Int) : (s.actOnCapture before c).scale.Sound := by
  unfold State.actOnCapture
  split
  · exact sound
  next waiting =>
    split
    · exact sound
    · split
      · exact State.captureOutcome_scale sound waiting _
      · exact sound
  next held =>
    split
    · exact sound.cleared held
    · exact sound
  next measuring =>
    split
    · exact sound
    · exact State.measure_scale sound measuring c _

theorem State.sampleBridge_scale (count : BitVec 24) : (s.sampleBridge count).scale.Sound :=
  State.actOnCapture_scale (s := s.bridgeMoment.setScale _) (sound.weigh count.toInt) _ _

theorem State.keyRequest_scale : s.keyRequest.scale.Sound := by
  unfold State.keyRequest
  split
  · exact sound
  next idle =>
    split
    · exact sound
    · exact sound.beginCapture (by simpa using idle) _

theorem State.cancelWaiting_scale : s.cancelWaiting.scale.Sound := by
  unfold State.cancelWaiting
  split
  next waiting => exact sound.cancel waiting
  · exact sound

theorem State.releaseStation_scale : s.releaseStation.scale.Sound := by
  refine State.cancelWaiting_scale (s := s.dropCharges.disarm) ?_
  have kept : s.dropCharges.scale = s.scale := by simp
  rw [State.disarm, State.setScale_scale, kept]
  exact sound.configured _ none

theorem State.unmountFormer_scale : s.unmountFormer.scale.Sound := by
  unfold State.unmountFormer
  split
  · exact State.releaseStation_scale sound
  · exact sound.configured _ none

theorem State.mountSlot_scale (i : SlotIx) : (s.mountSlot i).scale.Sound := by
  obtain ⟨_, _, same⟩ := s.mountSlot_left i
  exact same ▸ State.unmountFormer_scale sound

theorem State.unmountTool_scale : s.unmountTool.scale.Sound := by
  obtain ⟨_, _, same⟩ := s.unmountTool_left
  exact same ▸ State.releaseStation_scale sound

theorem State.restartAct_scale : s.restartAct.scale.Sound := by
  obtain ⟨_, _, same⟩ := s.restartAct_left
  exact same ▸ sound.restarted

end

/-! ## Every step -/

/-- The effects that reach the scale keep it sound. -/
theorem Effect.scale {s t : State} (effect : Effect s t) (sound : s.scale.Sound) : t.scale.Sound := by
  induction effect
  case mount i _ _ _ _ _ => exact State.mountSlot_scale sound i
  case unmount => exact State.unmountTool_scale sound
  case station c => exact sound.configured c s.scale.arming
  case arm a => exact sound.configured s.scale.station (some a)
  case capture idle p => exact sound.beginCapture idle p
  case measure idle k => exact sound.measure (.inl idle) (show 0 < 16 by decide)
  case stage i t r _ _ _ => exact (State.dispose_scale _ i).symm ▸ sound
  case heat on => exact (s.setMaster_scale on).symm ▸ sound
  case configure z c => simpa [State.configureZone] using sound
  case discard | abort | abandon | release | serial => simpa using sound
  all_goals exact sound

theorem keptByCommands_scale : KeptByCommands fun s => s.scale.Sound :=
  .of_effects (fun _ _ sound => sound) (fun _ _ sound => sound) fun _ _ => Effect.scale

/-- The events that weigh, capture, measure or restart keep the scale sound; the others leave it alone. -/
theorem keptByEvents_scale : KeptByEvents fun s => s.scale.Sound where
  reset _ _ := Scale.sound_reset
  resetHeld _ := Scale.sound_reset
  inputs _ _ _ sound := sound
  restart _ sound := State.restartAct_scale sound
  second s sound := s.advanceSecond_scale.symm ▸ sound
  sample s z r sound := by simpa [State.sampleZone] using sound
  window _ sound := sound
  onTime _ _ sound := sound
  bridge _ count sound := State.sampleBridge_scale sound count
  key _ sound := State.keyRequest_scale sound
  captureFails s p waiting sound := by
    obtain ⟨accept, _⟩ := sound.lampsOff (by simp [waiting])
    simpa [State.failCapture, Scale.held, accept] using sound.endCapture waiting false sound.charge
  stops s sound := (State.stopCycle_aside _).scale.symm ▸ by simpa using sound
  resumes s sound := by
    obtain ⟨_, _, _, e⟩ := ((s.setInputs { s.inputs with eStop := false }).followZones).resumeCycle_eq
    rw [e]
    simpa using sound
  closes _ _ sound := sound
  opensEarly s _ sound := (State.stopCure_aside (s.markAborted _)).scale.symm ▸ sound
  closeLate s _ sound := s.timeOutClose_aside.scale.symm ▸ sound
  cure s t r _ sound := (s.cureWork_scale t r).symm ▸ sound
  openLate _ _ sound := sound
  opens s sound := by
    obtain ⟨_, _, _, e⟩ := s.leaveRelease_eq
    exact e ▸ sound
  forward s sound := s.forwardReached_aside.scale.symm ▸ sound
  permits _ sound := sound
  back s sound := s.backReached_aside.scale.symm ▸ sound
  stalls s _ sound := s.stall_aside.scale.symm ▸ sound
  jams _ _ sound := sound
  takenOut _ _ sound := by simpa using sound

/-- Settles O53: what the statement says is of the scale alone, each operation that begins something begins it in IDLE, and
each that ends something finds it in progress. -/
theorem everyStepKeepsTheScaleSound : Obligations.EveryStepKeepsTheScaleSound := by
  intro s t inv next
  have sound := (scaleInv_iff s).1 inv
  exact (scaleInv_iff t).2 (keptByEvents_scale.step keptByCommands_scale (Q := fun s => s.scale.Sound) (fun _ => id)
    (fun _ => sound) (fun _ _ _ => sound) next)

end Sys2Proof.Machine
end

section
/-! PROOF. What the rules of a running press cycle are made of, for a property of the tool table, the cycle and the part
record ring: writes into the open record, moves between the running states, and the close of the cycle. -/

namespace Sys2Proof.Machine

/-! ## Writes into the open record -/

/-- A write into a record that leaves what the ring's invariant speaks of, and the verdict true exactly with no fault. -/
structure PartRecord.Written (f : PartRecord → PartRecord) : Prop where
  opened : ∀ r, (f r).opened = r.opened
  serial : ∀ r, (f r).serial = r.serial
  takeout : ∀ r, (f r).takeoutTime = r.takeoutTime
  cavities : ∀ r, (f r).cavities.length = r.cavities.length
  verdict : ∀ r, (r.verdict = true ↔ r.faults = 0) → ((f r).verdict = true ↔ (f r).faults = 0)

theorem length_writeDoses (cs : List RecordCavity) (ds : List CavityCure) : (writeDoses cs ds).length = cs.length := by
  induction cs generalizing ds with
  | nil => cases ds <;> rfl
  | cons c cs ih =>
    cases ds with
    | nil => rfl
    | cons d ds => exact congrArg Nat.succ (ih ds)

/-- A fault set with a code placed in it is not empty. -/
theorem FaultSet.add_ne_zero (f : FaultSet) (c : FaultCode) : FaultSet.add f c ≠ 0 := by
  intro none
  have bit : (FaultSet.add f c).getLsbD c.bit = true := by
    have place : c.bit < 12 := by cases c <;> decide
    simp [FaultSet.add, place]
  rw [none] at bit
  simp at bit

theorem PartRecord.written_addFault (c : FaultCode) : PartRecord.Written (·.addFault c) where
  opened _ := rfl
  serial _ := rfl
  takeout _ := rfl
  cavities _ := rfl
  verdict r _ := by simpa [PartRecord.addFault] using FaultSet.add_ne_zero r.faults c

/-- A write of anything but the fault set, with a list of cavities as long as it was. -/
theorem PartRecord.written_of_eq {f : PartRecord → PartRecord} (opened : ∀ r, (f r).opened = r.opened)
    (serial : ∀ r, (f r).serial = r.serial) (takeout : ∀ r, (f r).takeoutTime = r.takeoutTime)
    (cavities : ∀ r, (f r).cavities.length = r.cavities.length) (verdict : ∀ r, (f r).verdict = r.verdict)
    (faults : ∀ r, (f r).faults = r.faults) : PartRecord.Written f :=
  ⟨opened, serial, takeout, cavities, fun r h => by rw [verdict, faults]; exact h⟩

/-! ## The rules of a running cycle -/

/-- The parts of a state that the invariants of the tool table, the zones, the cycle and the ring read. -/
def State.press (s : State) := (s.tools, s.cycle, s.ring, s.zones, s.heaters, s.drive, s.inputs, s.queue)

/-- A property that the moves of a running cycle keep. -/
structure KeptByPress (P : State → Prop) : Prop where
  same : ∀ s t : State, t.press = s.press → P s → P t
  write : ∀ s f, PartRecord.Written f → P s → P (s.updateOpen f)
  flags : ∀ (s : State) (close opened posted : Bool), P s →
    P (s.setCycle { s.cycle with closePermit := close, openPermit := opened, overduePosted := posted })
  enter : ∀ s st, s.cycle.state.running = true → st.running = true → P s → P (s.enter st)
  close : ∀ s, s.cycle.state.running = true → P s → P s.closeCycle

/-- A property that a change of the queue and the events of the zones, E_STOP, reset and RESTART keep. -/
structure KeptByBlocks (P : State → Prop) : Prop where
  queue : ∀ s q, P s → P (s.changeQueue q)
  inputs : ∀ s i, i.eStop = s.inputs.eStop ∧ i.resetPin = s.inputs.resetPin → P s → P (s.setInputs i)
  sample : ∀ s z r, P s → P (s.sampleZone z r)
  window : ∀ s, P s → P s.startWindow
  onTime : ∀ s z, P s → P (s.outputOff z)
  stops : ∀ s, P s → P (((s.setInputs { s.inputs with eStop := true }).post .estop s.openSubject none).followZones.stopCycle)
  resumes : ∀ s, P s → P ((s.setInputs { s.inputs with eStop := false }).followZones.resumeCycle)
  reset : ∀ (s : State) held, P (s.powerOn held)
  restart : ∀ s, P s → P s.restartAct

/-- A cure accumulates in a running state alone. -/
theorem running_of_curing {s : State} {t : Tool} {r : Recipe} (curing : s.curing = some (t, r)) :
    s.cycle.state.running = true := by
  unfold State.curing at curing
  split at curing
  next runs => rw [runs.1]; rfl
  · cases curing

/-- A measurement that goes on or ends is no part of these. -/
theorem State.measure_press {s : State} (c : Int) (m : Measurement) : (s.measure c m).press = s.press := by
  refine iteInduction (motive := fun t : State => t.press = s.press) (fun _ => rfl) fun _ => ?_
  refine iteInduction (motive := fun t : State => t.press = s.press) (fun _ => ?_) fun _ => rfl
  unfold State.finishMeasurement
  split
  · rfl
  · exact iteInduction (motive := fun t : State => t.press = s.press) (fun _ => rfl) fun _ =>
      iteInduction (motive := fun t : State => t.press = s.press) (fun _ => rfl) fun _ => rfl

namespace KeptByPress

variable {P : State → Prop} (press : KeptByPress P) {s : State}
include press

theorem timers (before : P s) (v : Timers) : P (s.setTimers v) := press.same s _ rfl before

theorem ejector (before : P s) (v : Ejector) : P (s.setEjector v) := press.same s _ rfl before

theorem integrator (before : P s) (v : Cure) : P (s.setCure v) := press.same s _ rfl before

theorem post (before : P s) (k : NoticeKind) (u : Subject) (v : Option Int) : P (s.post k u v) :=
  press.same s _ rfl before

theorem addFault (before : P s) (c : FaultCode) : P (s.addFault c) := press.write s _ (PartRecord.written_addFault c) before

theorem setOutcome (before : P s) (o : PartOutcome) : P (s.setOutcome o) :=
  press.write s _ (PartRecord.written_of_eq (fun _ => rfl) (fun _ => rfl) (fun _ => rfl) (fun _ => rfl) (fun _ => rfl)
    fun _ => rfl) before

theorem markAborted (before : P s) (c : FaultCode) : P (s.markAborted c) :=
  press.setOutcome (press.addFault before c) _

theorem drivePermits (before : P s) : P s.drivePermits := press.flags s _ _ s.cycle.overduePosted before

theorem beginStroke (before : P s) : P s.beginStroke := press.timers (press.ejector before _) _

section
variable (running : s.cycle.state.running = true)
include running

/-- TAKEOUT is entered, and left where TAKEOUT_CLEAR is asserted (R104). -/
theorem enterTakeout (before : P s) : P s.enterTakeout := by
  have entered := press.enter s .takeout running rfl before
  obtain ⟨_, same⟩ | ⟨_, same⟩ := s.enterTakeout_cases <;> rw [same]
  · exact entered
  · exact press.close _ (by rw [s.enter_cycle]; rfl) entered

/-- The strokes and retries are written, and the sequence ends (R136). -/
theorem endSequence (before : P s) : P s.endSequence := by
  have written := press.write s (fun r => { r with strokes := s.ejector.strokes, retries := s.ejector.retries })
    (PartRecord.written_of_eq (fun _ => rfl) (fun _ => rfl) (fun _ => rfl) (fun _ => rfl) (fun _ => rfl) fun _ => rfl) before
  exact press.enterTakeout (s := (s.updateOpen _).setEjector _) running (press.ejector written _)

theorem abandonSequence (before : P s) : P s.abandonSequence :=
  press.endSequence (s := s.setOutcome _) running (press.setOutcome before _)

theorem judgeBack (before : P s) : P s.judgeBack := by
  unfold State.judgeBack
  split
  · split
    · exact press.abandonSequence running before
    · split
      · exact press.ejector before _
      · split
        · exact press.beginStroke before
        · exact press.endSequence running before
  · exact before

theorem retract (before : P s) (stalled : Bool) : P (s.retract stalled) :=
  press.judgeBack (s := (s.setEjector _).setTimers _) running (press.timers (press.ejector before _) _)

theorem abandon (before : P s) : P s.abandon := by
  unfold State.abandon
  split
  · exact press.abandonSequence running before
  · exact press.ejector before _
  · exact press.ejector before _
  · exact press.ejector before _
  · exact before

theorem stopEjector (before : P s) : P s.stopEjector := by
  have stopped := press.ejector before (s.ejector.stopped s.inputs.ejectAtBack)
  unfold State.stopEjector
  dsimp only
  split
  · exact press.abandonSequence (s := s.setEjector _) running stopped
  · exact stopped

theorem unjam (before : P s) : P s.unjam := by
  unfold State.unjam
  split
  · exact press.abandonSequence running before
  · exact press.ejector before _

theorem stall (before : P s) : P s.stall :=
  press.retract (s := (s.strokeMoment.addFault .ejectStall).post .ejectStall s.openSubject _) running
    (press.post (press.addFault (press.timers before _) _) _ _ _) true

omit running in
theorem jam (before : P s) : P s.jam :=
  press.post (press.addFault (press.ejector (press.timers before _) _) _) _ _ _

theorem enterEjecting (before : P s) : P s.enterEjecting :=
  press.beginStroke (press.ejector (press.enter s .ejecting running rfl before) _)

omit running in
theorem leaveRelease (before : P s) : P s.leaveRelease := by
  obtain ⟨release, _, _, same⟩ | ⟨_, same⟩ := s.leaveRelease_cases <;> rw [same]
  · exact press.enterEjecting (by rw [release]; rfl) before
  · exact before

/-- The entry to RELEASE sets the release time and the open timer (R102). -/
theorem enterRelease (before : P s) : P s.enterRelease := by
  have released := press.write s (fun r => { r with releaseTime := some s.clocks.part })
    (PartRecord.written_of_eq (fun _ => rfl) (fun _ => rfl) (fun _ => rfl) (fun _ => rfl) (fun _ => rfl) fun _ => rfl) before
  have timed := press.timers released { s.timers with opening := 0 }
  exact press.leaveRelease (press.enter _ .release running rfl
    (press.flags _ s.cycle.closePermit s.cycle.openPermit false timed))

omit running in
theorem endCure (before : P s) : P s.endCure :=
  press.write _ _ (PartRecord.written_of_eq (fun _ => rfl) (fun _ => rfl) (fun _ => rfl)
    (fun r => length_writeDoses r.cavities _) (fun _ => rfl) fun _ => rfl) (press.integrator before _)

theorem stopCure (before : P s) : P s.stopCure := press.enterRelease (s := s.endCure) running (press.endCure before)

theorem leaveLoading (before : P s) : P s.leaveLoading :=
  press.enterTakeout (s := s.endPending) running (press.integrator before _)

theorem timeOutClose (before : P s) : P s.timeOutClose :=
  press.leaveLoading (s := (s.closeMoment.markAborted .closeTimeout).post _ _ _) running
    (press.post (press.markAborted (press.timers before _) _) _ _ _)

theorem beginCure (before : P s) : P s.beginCure := by
  have written := press.write s (fun r => { r with closeTime := some s.clocks.part })
    (PartRecord.written_of_eq (fun _ => rfl) (fun _ => rfl) (fun _ => rfl) (fun _ => rfl) (fun _ => rfl) fun _ => rfl) before
  exact press.enter (((s.updateOpen _).setCure _).setTimers _) .curing running rfl
    (press.timers (press.integrator written _) _)

omit running in
theorem postOverdue (before : P s) : P s.postOverdue :=
  press.flags (s.openMoment.post .openOverdue s.openSubject _) s.cycle.closePermit s.cycle.openPermit true
    (press.post (press.timers before _) _ _ _)

theorem decideRelease (before : P s) (r : Recipe) : P (s.decideRelease r) := by
  unfold State.decideRelease
  split
  · exact press.stopCure (s := s.post _ _ _) running (press.post before _ _ _)
  · split
    · exact press.stopCure (s := ((s.addFault _).setOutcome _).post _ _ _) running
        (press.post (press.setOutcome (press.addFault before _) _) _ _ _)
    · exact before

omit running in
theorem accumulate (before : P s) (t : Tool) (r : Recipe) : P (s.accumulate t r) :=
  press.write _ _ (PartRecord.written_of_eq (fun _ => rfl) (fun _ => rfl) (fun _ => rfl) (fun _ => rfl) (fun _ => rfl)
    fun _ => rfl) (press.integrator before _)

omit running in
theorem addFaultIf (before : P s) (b : Bool) (c : FaultCode) : P (s.addFaultIf b c) := by
  unfold State.addFaultIf
  split
  · exact press.addFault before c
  · exact before

omit running in
theorem judgeZones (before : P s) (t : Tool) : P (s.judgeZones t) :=
  press.addFaultIf (press.addFaultIf (press.addFaultIf before _ _) _ _) _ _

theorem cureWork (before : P s) (t : Tool) (r : Recipe) : P (s.cureWork t r) := by
  have timed : P s.cureMoment := press.timers (press.timers before _) _
  have same : ((s.cureMoment.accumulate t r).judgeZones t).cycle = s.cycle := by
    obtain ⟨_, _, _, e⟩ := s.judged_eq t r
    exact e ▸ rfl
  exact press.decideRelease (same ▸ running) (press.judgeZones (press.accumulate timed t r) t) r

end

theorem forwardReached (before : P s) : P s.forwardReached := by
  unfold State.forwardReached
  split
  next ejecting => exact press.retract (s := s.setEjector _) (by simp [ejecting.1, CycleState.running]) (press.ejector before _) false
  · exact before

theorem backReached (before : P s) : P s.backReached := by
  unfold State.backReached
  split
  next ejecting =>
    have running : s.cycle.state.running = true := by rw [ejecting]; rfl
    split
    · exact press.judgeBack running before
    · exact press.unjam running before
    · exact before
    · exact before
    · exact before
  · exact before

/-- ABORT, by cycle state (R105). -/
theorem abortCycle (before : P s) : P s.abortCycle := by
  unfold State.abortCycle
  split
  · exact before
  · exact before
  · exact before
  · exact before
  next loading => exact press.leaveLoading (s := s.markAborted _) (by simp [loading, CycleState.running]) (press.markAborted before _)
  next curing => exact press.stopCure (s := s.markAborted _) (by simp [curing, CycleState.running]) (press.markAborted before _)
  · exact press.markAborted before _
  next ejecting => exact press.abandon (s := s.addFault _) (by simp [ejecting, CycleState.running]) (press.addFault before _)

/-- The rising edge of E_STOP in a running state (R106). -/
theorem stopCycle_running (before : P s) (running : s.cycle.state.running = true) : P s.stopCycle := by
  unfold State.stopCycle
  split
  · exact before
  next waits => simp [waits, CycleState.running] at running
  next waits => simp [waits, CycleState.running] at running
  · exact press.leaveLoading (s := s.markAborted _) running (press.markAborted before _)
  · exact press.stopCure (s := s.markAborted _) running (press.markAborted before _)
  · exact press.addFault (press.drivePermits before) _
  · exact press.stopEjector (s := s.addFault _) running (press.addFault before _)
  · exact press.addFault before _

/-- The falling edge of E_STOP in a running state (R107). -/
theorem resumeCycle_running (before : P s) (running : s.cycle.state.running = true) : P s.resumeCycle := by
  unfold State.resumeCycle
  split
  next waits => simp [waits, CycleState.running] at running
  next waits => simp [waits, CycleState.running] at running
  · exact press.drivePermits before
  · exact press.leaveRelease (press.drivePermits before)
  · exact before
  · exact before
  · exact before
  · exact before

section
variable (evaluate : ∀ s, P s → P s.evaluate) (before : P s)
include evaluate before

/-- A state that is no running one is one in which the cycle waits, or NO_TOOL (R93). -/
theorem stopCycle : P s.stopCycle := by
  cases running : s.cycle.state.running
  · unfold State.stopCycle
    split <;> simp_all [CycleState.running]
  · exact press.stopCycle_running before running

theorem resumeCycle : P s.resumeCycle := by
  cases running : s.cycle.state.running
  · unfold State.resumeCycle
    split <;> simp_all [CycleState.running]
  · exact press.resumeCycle_running before running

end

/-! ## The charge scale and the second advance -/

section
variable (queue : ∀ s q, P s → P (s.changeQueue q)) (before : P s)
include before

theorem setScale (v : Scale) : P (s.setScale v) := press.same s _ rfl before

include queue

theorem captureOutcome (p : Snapshot) : P (s.captureOutcome p) :=
  iteInduction (fun _ => press.post (press.setScale before _) _ _ _) fun _ => iteInduction
    (fun _ => press.post (press.setScale before _) _ _ _) fun _ => press.post (queue (s.setScale _) _ (press.setScale before _)) _ _ _

theorem actOnCapture (load : LoadState) (c : Int) : P (s.actOnCapture load c) := by
  unfold State.actOnCapture
  split
  · exact before
  · split
    · exact before
    · exact iteInduction (fun _ => press.captureOutcome queue before _) fun _ => before
  · exact iteInduction (fun _ => press.setScale before _) fun _ => before
  · split
    · exact before
    · exact press.same s _ (State.measure_press _ _) before

theorem sampleBridge (count : BitVec 24) : P (s.sampleBridge count) :=
  press.actOnCapture (s := s.bridgeMoment.setScale _) queue (press.same s _ rfl before) _ _

theorem advanceSecond : P s.advanceSecond := by
  have moved : P (s.secondMoment.setClocks s.clocks.advanced) := press.same s _ rfl before
  refine iteInduction (fun _ => moved) fun _ => queue _ _ ?_
  exact List.foldlRecOn _ _ moved fun _ kept _ _ => press.post kept _ _ _

end

/-! ## Every event -/

/-- Every event keeps such a property, if those of the other blocks do. -/
theorem events (blocks : KeptByBlocks P) : KeptByEvents P where
  reset := blocks.reset
  resetHeld s := press.same (s.powerOn true) _ rfl (blocks.reset s true)
  restart := blocks.restart
  inputs := blocks.inputs
  sample := blocks.sample
  window := blocks.window
  onTime := blocks.onTime
  stops := blocks.stops
  resumes := blocks.resumes
  second _ before := press.advanceSecond blocks.queue before
  bridge _ count before := press.sampleBridge blocks.queue before count
  key s before := by
    obtain ⟨_, _, e⟩ := s.keyRequest_eq
    exact press.same s _ (by rw [e]; rfl) before
  captureFails _ _ _ before := press.post (press.setScale before _) _ _ _
  closes _ loading before := press.beginCure (by rw [loading]; rfl) before
  opensEarly s curing before := press.stopCure (s := s.markAborted _) (congrArg CycleState.running curing) (press.markAborted before _)
  closeLate _ loading before := press.timeOutClose (by rw [loading]; rfl) before
  cure _ t r curing before := press.cureWork (running_of_curing curing) before t r
  openLate _ _ before := press.postOverdue before
  opens _ before := press.leaveRelease before
  forward _ before := press.forwardReached before
  permits _ before := press.drivePermits before
  back _ before := press.backReached before
  stalls _ ejecting before := press.stall (by rw [ejecting]; rfl) before
  jams _ _ before := press.jam before
  takenOut _ takeout before := press.close _ (by rw [takeout]; rfl) before

end KeptByPress

end Sys2Proof.Machine
end

section
/-! PROOF. The tool table stays sound (R1, R6, R9): what is written into a slot is a sound tool under a number no other slot
holds, and a recipe waits in the mounted slot alone, until the cycle closes. -/

namespace Sys2Proof.Machine

/-! ## Finding slots -/

section
variable {s : State}

theorem State.holds_of_slotOf {n : Nat} {i : SlotIx} (found : s.slotOf n = some i) :
    ∃ t, s.tools[i] = some t ∧ t.number = n := by
  unfold State.slotOf at found
  split at found
  · cases found
  · have holds := List.find?_some found
    cases h : s.tools[i] with
    | none => simp [h] at holds
    | some t => exact ⟨t, rfl, by simpa [h] using holds⟩

theorem State.absent_of_slotOf {n : Nat} (named : n ≠ 0) (missing : s.slotOf n = none) {i : SlotIx} {t : Tool}
    (h : s.tools[i] = some t) : t.number ≠ n := by
  rw [State.slotOf, if_neg named, List.find?_eq_none] at missing
  simpa [h] using missing i (mem_allSlots i)

theorem State.empty_of_emptySlot {i : SlotIx} (found : s.emptySlot = some i) : s.tools[i] = none := by
  simpa using List.find?_some found

end

/-! ## The view -/

/-- The slot in which a recipe may wait: the mounted one, in a running state (R9). -/
def Cycle.holder (c : Cycle) : Option SlotIx := if c.state.running then c.mounted else none

/-- A tool table is sound with recipes waiting in one slot at most. -/
structure ToolsSound (tools : Vector (Option Tool) 8) (holder : Option SlotIx) : Prop where
  sound : ∀ (i : SlotIx) (t : Tool), tools[i] = some t → ToolSound t
  distinct : ∀ (i j : SlotIx) (t u : Tool), tools[i] = some t → tools[j] = some u → t.number = u.number → i = j
  waits : ∀ (i : SlotIx) (t : Tool), tools[i] = some t → t.staged.isSome = true → holder = some i

theorem toolInv_iff (s : State) : ToolInv s ↔ ToolsSound s.tools s.cycle.holder := by
  have held (i : SlotIx) : s.cycle.holder = some i ↔ s.cycle.mounted = some i ∧ s.cycle.state.running = true := by
    unfold Cycle.holder
    split <;> simp_all
  exact ⟨fun ⟨sound, distinct, waits⟩ => ⟨sound, distinct, fun i t h w => (held i).2 (waits i t h w)⟩,
    fun ⟨sound, distinct, waits⟩ => ⟨sound, distinct, fun i t h w => (held i).1 (waits i t h w)⟩⟩

theorem Cycle.mounted_of_holder {c : Cycle} {i : SlotIx} (held : c.holder = some i) : c.mounted = some i := by
  unfold Cycle.holder at held
  split at held
  · exact held
  · cases held

theorem Cycle.holder_waits {c : Cycle} (waits : c.state.running = false) : c.holder = none := by
  simp [Cycle.holder, waits]

/-! ## Writing a slot -/

theorem getElem_set_cases {tools : Vector (Option Tool) 8} {i j : SlotIx} {v : Option Tool} {t : Tool}
    (h : (tools.set i v)[j] = some t) : (i = j ∧ v = some t) ∨ (i ≠ j ∧ tools[j] = some t) := by
  by_cases same : i = j
  · subst same
    exact .inl ⟨rfl, by simpa using h⟩
  · exact .inr ⟨same, by simpa [Fin.val_ne_of_ne same] using h⟩

/-- A tool as it may stand in a slot of a table: under a number no other slot holds. -/
def Tool.Fresh (tools : Vector (Option Tool) 8) (i : SlotIx) (t : Tool) : Prop :=
  ∀ (j : SlotIx) (u : Tool), tools[j] = some u → u.number = t.number → j = i

namespace ToolsSound

variable {tools : Vector (Option Tool) 8} {holder : Option SlotIx} (table : ToolsSound tools holder)
include table

/-- More slots may hold a waiting recipe. -/
theorem mono {holder' : Option SlotIx} (more : ∀ i, holder = some i → holder' = some i) : ToolsSound tools holder' :=
  { table with waits := fun i t h w => more i (table.waits i t h w) }

theorem fresh {i : SlotIx} {t : Tool} (h : tools[i] = some t) {u : Tool} (same : u.number = t.number) :
    Tool.Fresh tools i u := fun j v hv number => table.distinct j i v t hv h (number.trans same)

theorem write {i : SlotIx} {t : Tool} (sound : ToolSound t) (fresh : Tool.Fresh tools i t)
    (waits : t.staged.isSome = true → holder = some i) : ToolsSound (tools.set i (some t)) holder where
  sound j u h := by
    obtain ⟨_, ⟨⟩⟩ | ⟨_, h⟩ := getElem_set_cases h
    · exact sound
    · exact table.sound j u h
  distinct j k u v hu hv number := by
    obtain ⟨rfl, ⟨⟩⟩ | ⟨_, hu⟩ := getElem_set_cases hu <;> obtain ⟨rfl, ⟨⟩⟩ | ⟨_, hv⟩ := getElem_set_cases hv
    · rfl
    · exact (fresh k v hv number.symm).symm
    · exact fresh j u hu number
    · exact table.distinct j k u v hu hv number
  waits j u h w := by
    obtain ⟨rfl, ⟨⟩⟩ | ⟨_, h⟩ := getElem_set_cases h
    · exact waits w
    · exact table.waits j u h w

theorem clear (i : SlotIx) : ToolsSound (tools.set i none) holder where
  sound j u h := by
    obtain ⟨_, ⟨⟩⟩ | ⟨_, h⟩ := getElem_set_cases h
    exact table.sound j u h
  distinct j k u v hu hv number := by
    obtain ⟨_, ⟨⟩⟩ | ⟨_, hu⟩ := getElem_set_cases hu
    obtain ⟨_, ⟨⟩⟩ | ⟨_, hv⟩ := getElem_set_cases hv
    exact table.distinct j k u v hu hv number
  waits j u h w := by
    obtain ⟨_, ⟨⟩⟩ | ⟨_, h⟩ := getElem_set_cases h
    exact table.waits j u h w

/-- A staged recipe promoted leaves no recipe waiting in its slot (R10). -/
theorem promote {i : SlotIx} {t : Tool} {r : Recipe} (h : tools[i] = some t) (staged : t.staged = some r) :
    ToolsSound (tools.set i (some (t.promoted r))) holder := by
  have old := table.sound i t h
  refine table.write ⟨old.number, old.cavities, old.zones, ?_, nofun, ?_⟩ (table.fresh h rfl) nofun
  · rintro _ ⟨⟩
    exact old.staged r staged
  · show (t.revision + 1) % 65536 ≤ 65535
    omega

end ToolsSound

/-- With nothing waiting in the one slot where a recipe may wait, none waits. -/
theorem ToolsSound.settled {tools : Vector (Option Tool) 8} {i : SlotIx} (table : ToolsSound tools (some i))
    (none_staged : ∀ t, tools[i] = some t → t.staged = none) (holder : Option SlotIx) : ToolsSound tools holder where
  sound := table.sound
  distinct := table.distinct
  waits j t h w := by
    obtain ⟨⟩ := table.waits j t h w
    simp [none_staged t h] at w

/-! ## Promotion -/

section
variable {s : State}

/-- The recipe of a slot promoted, if one is staged there. -/
theorem State.promote_toolsSound {holder : Option SlotIx} (table : ToolsSound s.tools holder) (i : SlotIx) :
    ToolsSound (s.promote i).tools holder := by
  obtain same | ⟨t, r, h, staged, same⟩ := s.promote_cases i <;> rw [same]
  · exact table
  · exact table.promote h staged

/-- Promoted, the slot holds no staged recipe. -/
theorem State.promote_staged {i : SlotIx} {t : Tool} (h : (s.promote i).tools[i] = some t) : t.staged = none := by
  unfold State.promote at h
  split at h
  next absent => simp [absent] at h
  next u held =>
    split at h
    next empty =>
      rw [held] at h
      cases h
      exact empty
    next r _ =>
      have written : some (u.promoted r) = some t := by simpa using h
      cases written
      rfl

/-- A table with recipes waiting in the mounted slot at most has none waiting once they are promoted (R11, R12). -/
theorem State.promoteMounted_toolsSound (table : ToolsSound s.tools s.cycle.mounted) (holder : Option SlotIx) :
    ToolsSound s.promoteMounted.tools holder := by
  unfold State.promoteMounted
  split
  next none_mounted => exact table.mono (by simp [none_mounted])
  next i mounted =>
    rw [mounted] at table
    split
    · have same : (s.promote i).setWorkings.tools = (s.promote i).tools := by simp
      rw [same]
      exact (State.promote_toolsSound table i).settled (fun _ => State.promote_staged) holder
    next nothing =>
      refine table.settled (fun t h => ?_) holder
      simpa [State.hasStaged, State.mountedTool, mounted, h] using nothing

end

/-! ## The moves of a cycle -/

section
variable {s t : State} (inv : ToolInv s)
include inv

/-- The table with the slot in which a recipe may wait, or the mounted one. -/
theorem ToolInv.table : ToolsSound s.tools s.cycle.mounted :=
  ((toolInv_iff s).1 inv).mono fun _ => Cycle.mounted_of_holder

theorem ToolInv.of_eq (tools : t.tools = s.tools) (mounted : t.cycle.mounted = s.cycle.mounted)
    (running : s.cycle.state.running = true → t.cycle.state.running = true) : ToolInv t := by
  rw [toolInv_iff, tools]
  refine ((toolInv_iff s).1 inv).mono fun i held => ?_
  cases runs : s.cycle.state.running
  · rw [Cycle.holder_waits runs] at held
    cases held
  · simpa [Cycle.holder, running runs, mounted] using Cycle.mounted_of_holder held

theorem ToolInv.evaluate : ToolInv s.evaluate := by
  cases waits : s.cycle.state.waits
  · rwa [s.evaluate_other waits]
  · have stopped : s.cycle.state.running = false := by
      cases state : s.cycle.state <;> simp_all [CycleState.waits, CycleState.running]
    rw [s.evaluate_waits waits]
    exact inv.of_eq rfl rfl (by simp [stopped])

theorem ToolInv.closeCycle : ToolInv s.closeCycle := by
  have promoted := State.promoteMounted_toolsSound (s := s.closeRecord.idleCure) (holder := none) (by
    have tools : s.closeRecord.idleCure.tools = s.tools := by simp
    have mounted : s.closeRecord.idleCure.cycle.mounted = s.cycle.mounted :=
      congrArg Charges.mounted (s.closeRecord_charges)
    rw [tools, mounted]
    exact inv.table)
  exact ToolInv.evaluate ((toolInv_iff _).2 promoted)

end

theorem keptByPress_tools : KeptByPress ToolInv where
  same s t same inv := inv.of_eq (congrArg (·.1) same :) (congrArg (·.2.1.mounted) same :) fun running =>
    (congrArg (·.2.1.state.running) same : t.cycle.state.running = s.cycle.state.running).trans running
  write s f _ inv := inv.of_eq rfl rfl id
  flags s _ _ _ inv := inv.of_eq rfl rfl id
  enter s st _ runs inv := inv.of_eq rfl rfl fun _ => runs
  close s _ inv := inv.closeCycle

end Sys2Proof.Machine
end

section
/-! PROOF. A property that the tool table, the cycle and the part record ring decide, and that an evaluation of the ready
reasons keeps: every event but a reset and RESTART keeps it, if the moves of a running cycle do. -/

namespace Sys2Proof.Machine

/-- A property of the tool table, the cycle and the ring that an evaluation keeps. -/
structure KeptByReports (P : State → Prop) : Prop where
  agree : ∀ s t : State, t.tools = s.tools → t.cycle = s.cycle → t.ring = s.ring → P s → P t
  evaluate : ∀ s, P s → P s.evaluate

theorem CycleState.waits_of_running {c : CycleState} (running : c.running = true) : c.waits = false := by
  cases c <;> simp_all [CycleState.waits, CycleState.running]

theorem CycleState.running_of_waits {c : CycleState} (waits : c.waits = true) : c.running = false := by
  cases c <;> simp_all [CycleState.waits, CycleState.running]

namespace KeptByReports

variable {P : State → Prop} (reports : KeptByReports P) {s : State}
include reports

/-- Each zone as it may be, and the reports of the zones (R33, R95). -/
theorem applyZone (before : P s) (z : ZoneIx) (f : ZoneStep → ZoneStep) : P (s.applyZone z f) := by
  have zoned : P (((s.setZones (s.zones.set z (f (s.zoneStep z)).zone)).setHeaters
      (s.heaters.set z (f (s.zoneStep z)).heater)).postZone z (f (s.zoneStep z)).posts) :=
    reports.agree s _ (by simp) (by simp) (by simp) before
  unfold State.applyZone
  dsimp only
  split
  · exact reports.evaluate _ zoned
  · exact zoned

theorem applyZones (before : P s) (f : ZoneIx → ZoneStep → ZoneStep) : P (s.applyZones f) :=
  reports.agree s _ (by simp) (by simp) (by simp) before

theorem sampleZone (before : P s) (z : ZoneIx) (r : Reading) : P (s.sampleZone z r) :=
  reports.applyZone (reports.agree s (s.zoneMoment z) (by simp) (by simp) (by simp) before) z _

theorem configureZone (before : P s) (z : ZoneIx) (c : ZoneConfig) : P (s.configureZone z c) := by
  rw [State.configureZone]
  exact reports.applyZone before z _

theorem setMaster (before : P s) (on : Bool) : P (s.setMaster on) := by
  unfold State.setMaster
  split
  · exact before
  · exact reports.evaluate _ (reports.agree s _ (by simp) (by simp) (by simp) before)

theorem changeQueue (before : P s) (q : List ChargeEntry) : P (s.changeQueue q) := by
  have queued : P (s.setQueue q) := reports.agree s _ rfl rfl rfl before
  obtain ⟨same, _⟩ | same := s.changeQueue_cases q <;> rw [same]
  · exact queued
  · exact reports.evaluate _ queued

/-- Every event keeps such a property, if a reset and RESTART do. -/
theorem events (press : KeptByPress P) (reset : ∀ (s : State) held, P (s.powerOn held))
    (restart : ∀ s : State, P s → P s.restartAct) : KeptByEvents P := press.events {
  queue := fun _ q before => reports.changeQueue before q
  inputs := fun s _ _ before => reports.agree s _ rfl rfl rfl before
  sample := fun _ z r before => reports.sampleZone before z r
  window := fun s before => reports.agree s _ rfl rfl rfl before
  onTime := fun s _ before => reports.agree s _ rfl rfl rfl before
  stops := fun s before => press.stopCycle reports.evaluate (reports.agree s _ (by simp) (by simp) (by simp) before)
  resumes := fun s before => press.resumeCycle reports.evaluate (reports.agree s _ (by simp) (by simp) (by simp) before)
  reset := reset
  restart := restart }

end KeptByReports

end Sys2Proof.Machine
end

section
/-! PROOF. The tool table kept by every step (R1, R6, R9). -/

namespace Sys2Proof.Machine

/-! ## The tool table -/

theorem keptByReports_tools : KeptByReports ToolInv where
  agree s t tools cycle _ inv := inv.of_eq tools (by rw [cycle]) (by simp [cycle])
  evaluate _ inv := inv.evaluate

/-- A tool that DEFINE TOOL takes is sound (R3). -/
theorem toolOf_sound {body : List Byte} (range : toolInRange body = true) : ToolSound (toolOf body) := by
  obtain ⟨number, cavities, _, zones, support⟩ := (toolInRange_iff body).1 range
  refine ⟨⟨Nat.one_le_iff_ne_zero.2 number, ?_⟩, cavities, fun c => ⟨(zones c).1, (zones c).2, support c⟩, nofun, nofun,
    Nat.zero_le _⟩
  have high (i : Nat) : u8 body i < 256 := (body.getD i 0).isLt
  have h0 := high 0
  have h1 := high 1
  show u8 body 0 * 256 + u8 body 1 ≤ 65535
  omega

section
variable {s : State} (inv : ToolInv s) (body : List Byte)
include inv

/-- A definition written under a number that no other slot holds. -/
theorem ToolInv.writeTool {i : SlotIx} (range : toolInRange body = true) (fresh : Tool.Fresh s.tools i (toolOf body)) :
    ToolInv (s.writeTool i (toolOf body)) := by
  have sound := toolOf_sound range
  have revision : (match s.tools[i] with | none => 0 | some old => old.revision) ≤ 65535 := by
    split
    · exact Nat.zero_le _
    next old h => exact (inv.sound i old h).revision
  exact (toolInv_iff _).2 (((toolInv_iff s).1 inv).write
    ⟨sound.number, sound.cavities, sound.zones, sound.active, sound.staged, revision⟩ fresh nofun)

omit inv in
/-- A recipe stored and promoted at once (R10). -/
theorem State.stage_promote {i : SlotIx} {t : Tool} (h : s.tools[i] = some t) (r : Recipe) :
    (s.stage i r).promote i
      = (s.setTools (s.tools.set i (some (t.promoted r)))).post .recipePromoted .absent (some t.number) := by
  have staged : (s.stage i r).tools[i] = some { t with staged := some r } := by simp [State.stage, h]
  have again : (s.stage i r).tools.set i (some (t.promoted r)) = s.tools.set i (some (t.promoted r)) := by
    simp [State.stage, h, Vector.set_set]
  unfold State.promote
  rw [staged]
  show ((s.stage i r).setTools ((s.stage i r).tools.set i (some (t.promoted r)))).post _ _ _ = _
  rw [again]
  rfl

omit inv in
/-- The mounted tool's recipe, stored and promoted at once, reaches the zones (R12). -/
theorem State.stage_promoteMounted {i : SlotIx} {t : Tool} (h : s.tools[i] = some t) (mounted : s.cycle.mounted = some i)
    (r : Recipe) : (s.stage i r).promoteMounted = ((s.stage i r).promote i).setWorkings := by
  have held : (s.stage i r).cycle.mounted = some i := mounted
  have staged : (s.stage i r).hasStaged = true := by
    simp [State.hasStaged, State.mountedTool, mounted, State.stage, h]
  unfold State.promoteMounted
  rw [held]
  exact if_pos staged

/-- A recipe stored for a tool waits for the mounted tool of a running cycle, and else is promoted at once (R9, R10). -/
theorem ToolInv.stageAndDispose {i : SlotIx} {t : Tool} (h : s.tools[i] = some t) {r : Recipe}
    (cavities : r.cavities.length = t.cavityCount) (cure : r.minCure ≤ r.maxCure) : ToolInv ((s.stage i r).dispose i) := by
  have old := inv.sound i t h
  have table := ((toolInv_iff s).1 inv)
  have fits : ∀ q, some r = some q → q.cavities.length = t.cavityCount ∧ q.minCure ≤ q.maxCure := by
    rintro _ ⟨⟩
    exact ⟨cavities, cure⟩
  have promoted : ToolInv ((s.stage i r).promote i) := by
    rw [State.stage_promote h]
    refine (toolInv_iff _).2 (table.write ⟨old.number, old.cavities, old.zones, fits, nofun, ?_⟩ (table.fresh h rfl) nofun)
    show (t.revision + 1) % 65536 ≤ 65535
    omega
  unfold State.dispose
  split
  next waits =>
    obtain ⟨mounted, running⟩ : (s.stage i r).isMounted i = true ∧ s.cycle.state.running = true := by
      simpa [State.recipeWaits] using waits
    have mounted : s.isMounted i = true := mounted
    have holder : s.cycle.holder = some i := by simp [Cycle.holder, running, (s.isMounted_iff i).1 mounted]
    have staged : (s.stage i r).tools = s.tools.set i (some { t with staged := some r }) := by simp [State.stage, h]
    refine (toolInv_iff _).2 ?_
    rw [staged]
    exact table.write ⟨old.number, old.cavities, old.zones, old.active, fits, old.revision⟩ (table.fresh h rfl)
      fun _ => holder
  · split
    next mounted =>
      rw [State.stage_promoteMounted h ((s.isMounted_iff i).1 mounted)]
      exact ToolInv.evaluate (promoted.of_eq (by simp) (by simp) (by simp))
    · exact promoted

/-- A tool is mounted, or none, between cycles (R16, R18). -/
theorem ToolInv.remounted {t : State} (stopped : s.cycle.state.running = false) (tools : t.tools = s.tools) : ToolInv t := by
  rw [toolInv_iff, tools]
  refine ((toolInv_iff s).1 inv).mono fun i held => ?_
  rw [Cycle.holder_waits stopped] at held
  cases held

theorem ToolInv.changeRing (r : Ring) : ToolInv (s.changeRing r) := by
  have changed : ToolInv (s.setRing r) := inv.of_eq rfl rfl id
  obtain ⟨same, _⟩ | same := s.changeRing_cases r <;> rw [same]
  · exact changed
  · exact changed.evaluate

/-- RESTART promotes a waiting recipe and leaves NO_TOOL (R11, R109). -/
theorem ToolInv.restartAct : ToolInv s.restartAct := by
  obtain ⟨tools, _, cycle, _⟩ := s.restartHeat_left
  have closed : ToolsSound s.restartHeat.restartClose.tools none := by
    unfold State.restartClose
    split
    · refine State.promoteMounted_toolsSound ?_ none
      obtain ⟨_, _, findings⟩ := s.restartHeat.restartFindings_eq
      have tools : ((s.restartHeat.restartFindings.markAborted .restart).closeRecord).tools = s.tools := by
        simpa [findings] using tools
      have mounted : ((s.restartHeat.restartFindings.markAborted .restart).closeRecord).cycle.mounted = s.cycle.mounted :=
        congrArg Charges.mounted (State.closeRecord_charges _) |>.trans (by simpa [State.charges, findings] using congrArg (·.mounted) cycle)
      rw [tools, mounted]
      exact inv.table
    next stopped =>
      rw [tools]
      rw [cycle] at stopped
      exact Cycle.holder_waits (c := s.cycle) (by simpa using stopped) ▸ (toolInv_iff s).1 inv
  obtain ⟨tools, _⟩ := s.restartAct_left
  have state : s.restartAct.cycle.state = .noTool := rfl
  have holder : s.restartAct.cycle.holder = none := Cycle.holder_waits (by rw [state]; rfl)
  rw [toolInv_iff, tools, holder]
  exact closed

end

theorem toolInv_reset : ToolInv State.reset where
  sound i t h := by simp [State.reset] at h
  distinct i j t u h := by simp [State.reset] at h
  waits i t h := by simp [State.reset] at h

/-- A definition is written under a number no other slot holds, and what empties, stages or promotes keeps each slot
sound (R3, R5, R9, R10). -/
theorem ToolInv.effect {s t : State} (inv : ToolInv s) (effect : Effect s t) : ToolInv t := by
  induction effect
  case define i body range free =>
    obtain ⟨held, _⟩ | ⟨absent, empty⟩ := free
    · obtain ⟨old, h, number⟩ := State.holds_of_slotOf held
      exact inv.writeTool body range (((toolInv_iff s).1 inv).fresh h number.symm)
    · refine inv.writeTool body range fun j u h number => ?_
      obtain ⟨named, _⟩ := (toolInRange_iff body).1 range
      exact absurd number (State.absent_of_slotOf named absent h)
  case clear i _ => exact (toolInv_iff _).2 (((toolInv_iff s).1 inv).clear i)
  case stage held cavities cure => exact inv.stageAndDispose held cavities cure
  case mount i _ _ stopped _ _ => exact inv.remounted stopped (s.mountSlot_left i).1
  case unmount waits => exact inv.remounted (CycleState.running_of_waits waits) s.unmountTool_left.1
  case start => exact inv.of_eq rfl rfl fun _ => rfl
  case configure z _ => exact keptByReports_tools.configureZone inv z _
  case heat on => exact keptByReports_tools.setMaster inv on
  case discard q => exact keptByReports_tools.changeQueue inv q
  case abort => exact keptByPress_tools.abortCycle inv
  case abandon ejecting => exact keptByPress_tools.abandon (by rw [ejecting]; rfl) inv
  case release | serial => exact inv.changeRing _
  all_goals exact inv.of_eq rfl rfl id

theorem keptByCommands_tools : KeptByCommands ToolInv :=
  .of_effects (fun _ _ inv => inv.of_eq rfl rfl id) (fun _ _ inv => inv.of_eq rfl rfl id) fun _ _ effect inv => inv.effect effect

theorem keptByEvents_tools : KeptByEvents ToolInv :=
  keptByReports_tools.events keptByPress_tools (fun _ _ => toolInv_reset.of_eq rfl rfl id) fun _ inv => inv.restartAct

/-- Settles O54: a definition is written under a number no other slot holds, a recipe is promoted at once or waits in the
mounted slot, and the close of the cycle promotes it before the cycle leaves the running states. -/
theorem everyStepKeepsTheToolTableSound : Obligations.EveryStepKeepsTheToolTableSound := by
  intro s t inv next
  exact keptByEvents_tools.step keptByCommands_tools (fun _ => id) (fun _ => inv.of_eq rfl rfl id)
    (fun _ _ _ => inv.of_eq rfl rfl id) next

end Sys2Proof.Machine
end

section
/-! PROOF. The ready reasons stay in agreement with the part (R93 to R95): what the cycle controller is outside the reasons,
and that each change of a condition is followed by an evaluation. -/

namespace Sys2Proof.Machine

/-! ## The conditions -/

/-- The conditions of R94 are those of a state that agrees in what they are read from. -/
theorem State.conditions_congr {s t : State} (master : t.drive.master = s.drive.master) (eStop : t.inputs.eStop = s.inputs.eStop)
    (settled : ∀ z : ZoneIx, (t.usesZone z && decide (t.zones[z].state ≠ .settled))
      = (s.usesZone z && decide (s.zones[z].state ≠ .settled)))
    (charges : shortCavities t.queue t.cavityCount = shortCavities s.queue s.cavityCount)
    (full : decide (48 ≤ t.ring.records.length) = decide (48 ≤ s.ring.records.length))
    (serials : t.ring.nextSerial.isNone = s.ring.nextSerial.isNone) : t.conditions = s.conditions := by
  unfold State.conditions
  rw [master, eStop, charges, serials, show Config.ringPlaces = 48 from rfl, full, funext settled]

/-- The mounted tool is the same. -/
theorem State.mountedTool_congr {s t : State} (tools : t.tools = s.tools) (mounted : t.cycle.mounted = s.cycle.mounted) :
    t.mountedTool = s.mountedTool := by
  rw [State.mountedTool, State.mountedTool, mounted, tools]

theorem State.usesZone_congr {s t : State} (same : t.mountedTool = s.mountedTool) (z : ZoneIx) : t.usesZone z = s.usesZone z := by
  rw [State.usesZone, State.usesZone, same]

theorem State.cavityCount_congr {s t : State} (same : t.mountedTool = s.mountedTool) : t.cavityCount = s.cavityCount := by
  rw [State.cavityCount, State.cavityCount, same]

/-! ## The view -/

/-- The cycle controller without its reasons between cycles: a tool with an active recipe is mounted outside NO_TOOL, and
elsewhere the set of reasons is empty (R93, R97). -/
structure CycleShape (s : State) : Prop where
  mounted : s.cycle.state = .noTool ↔ s.cycle.mounted = none
  recipe : ∀ i, s.cycle.mounted = some i → ∃ t r, s.tools[i] = some t ∧ t.active = some r
  unused : s.cycle.state.waits = false → s.cycle.reasons = ReadyReasons.none ∧ s.cycle.ready = false

/-- Between cycles the reasons are conditions as they were found, and READY and the state are decided by them (R94). -/
structure Cycle.Judged (c : Cycle) (found : ReadyReasons) : Prop where
  reasons : c.reasons = found
  ready : c.ready = found.isNone
  state : c.state = if found.isNone then .ready else .standby

theorem Cycle.judged_iff {c : Cycle} {found : ReadyReasons} (waits : c.state.waits = true) : c.Judged found ↔
    c.reasons = found ∧ (c.ready = true ↔ c.state = .ready) ∧ (c.state = .ready ↔ found.isNone = true) := by
  constructor
  · intro ⟨reasons, ready, state⟩
    rw [reasons, ready, state]
    cases found.isNone <;> simp
  · intro ⟨reasons, ready, state⟩
    refine ⟨reasons, by rw [Bool.eq_iff_iff, ready, state], ?_⟩
    split
    next none => exact state.2 none
    next some =>
      cases h : c.state with
      | standby => rfl
      | ready => exact absurd (state.1 h) some
      | noTool | loading | curing | release | ejecting | takeout => simp [h, CycleState.waits] at waits

theorem cycleInv_iff (s : State) :
    CycleInv s ↔ CycleShape s ∧ (s.cycle.state.waits = true → s.cycle.Judged s.conditions) := by
  constructor
  · intro ⟨mounted, recipe, ready, agree, decides, unused⟩
    refine ⟨⟨mounted, recipe, fun other => ⟨unused other, ?_⟩⟩, fun waits => ?_⟩
    · by_contra on
      rw [ready.1 (by simpa using on)] at other
      cases other
    · exact (Cycle.judged_iff waits).2 ⟨agree waits, ready, agree waits ▸ decides waits⟩
  · intro ⟨⟨mounted, recipe, unused⟩, judged⟩
    have waiting (waits : s.cycle.state.waits = true) := (Cycle.judged_iff waits).1 (judged waits)
    refine ⟨mounted, recipe, ?_, fun waits => (waiting waits).1, fun waits => ?_, fun other => (unused other).1⟩
    · cases waits : s.cycle.state.waits
      · rw [(unused waits).2]
        refine ⟨nofun, fun ready => ?_⟩
        rw [ready] at waits
        cases waits
      · exact (waiting waits).2.1
    · obtain ⟨reasons, _, state⟩ := waiting waits
      rw [reasons]
      exact state

namespace CycleShape

variable {s t : State} (shape : CycleShape s)
include shape

theorem of_eq (tools : t.tools = s.tools) (cycle : t.cycle = s.cycle) : CycleShape t :=
  ⟨by rw [cycle]; exact shape.mounted, by rw [cycle, tools]; exact shape.recipe, by rw [cycle]; exact shape.unused⟩

/-- Outside STANDBY and READY nothing is judged. -/
theorem inv_of_other (other : s.cycle.state.waits = false) : CycleInv s :=
  (cycleInv_iff s).2 ⟨shape, fun waits => absurd (other.symm.trans waits) (by decide)⟩

/-- An evaluation brings the reasons into agreement with the part (R94, R95). -/
theorem evaluate : CycleInv s.evaluate := by
  cases waits : s.cycle.state.waits
  · rw [s.evaluate_other waits]
    exact shape.inv_of_other waits
  · have evaluated : s.evaluate = s.setCycle (s.cycle.evaluated s.conditions) := by rw [State.evaluate, if_pos waits]
    refine (cycleInv_iff _).2 ⟨?_, fun _ => ?_⟩
    · rw [evaluated]
      have other : (if s.conditions.isNone = true then CycleState.ready else .standby) ≠ .noTool := by
        split <;> decide
      have mounted : s.cycle.mounted ≠ none := fun h => by
        rw [shape.mounted.2 h] at waits
        cases waits
      refine ⟨⟨fun h => absurd h other, fun h => absurd h mounted⟩, shape.recipe, fun h => ?_⟩
      have waits : (if s.conditions.isNone = true then CycleState.ready else .standby).waits = false := h
      split at waits <;> cases waits
    · rw [s.evaluate_conditions, evaluated]
      exact ⟨rfl, rfl, rfl⟩

end CycleShape

theorem CycleInv.shape {s : State} (inv : CycleInv s) : CycleShape s := ((cycleInv_iff s).1 inv).1

/-- A state with the same cycle whose conditions are the same is as sound. -/
theorem CycleInv.of_conditions {s t : State} (inv : CycleInv s) (tools : t.tools = s.tools) (cycle : t.cycle = s.cycle)
    (conditions : t.conditions = s.conditions) : CycleInv t := by
  refine (cycleInv_iff t).2 ⟨inv.shape.of_eq tools cycle, ?_⟩
  rw [cycle, conditions]
  exact ((cycleInv_iff s).1 inv).2

/-- So is one that agrees in all the conditions are read from. -/
theorem CycleInv.of_eq {s t : State} (inv : CycleInv s) (tools : t.tools = s.tools) (cycle : t.cycle = s.cycle)
    (zones : t.zones = s.zones) (drive : t.drive.master = s.drive.master) (inputs : t.inputs.eStop = s.inputs.eStop)
    (queue : t.queue = s.queue) (ring : t.ring = s.ring) : CycleInv t := by
  have mounted : t.mountedTool = s.mountedTool := State.mountedTool_congr tools (by rw [cycle])
  exact inv.of_conditions tools cycle (State.conditions_congr drive inputs
    (fun z => by rw [State.usesZone_congr mounted, zones]) (by rw [State.cavityCount_congr mounted, queue]) (by rw [ring])
    (by rw [ring]))

/-! ## The moves of a running cycle -/

section
variable {s : State}

/-- A promotion leaves a tool with an active recipe mounted. -/
theorem CycleShape.promote (recipe : ∀ i, s.cycle.mounted = some i → ∃ t r, s.tools[i] = some t ∧ t.active = some r)
    (j : SlotIx) : ∀ i, s.cycle.mounted = some i → ∃ t r, (s.promote j).tools[i] = some t ∧ t.active = some r := by
  intro i mounted
  obtain same | ⟨t, r, _, _, same⟩ := s.promote_cases j <;> rw [same]
  · exact recipe i mounted
  · by_cases h : j = i
    · subst h
      exact ⟨t.promoted r, r, by simp, rfl⟩
    · obtain ⟨u, q, held, active⟩ := recipe i mounted
      exact ⟨u, q, by simpa [Fin.val_ne_of_ne h] using held, active⟩

theorem CycleShape.promoteMounted (recipe : ∀ i, s.cycle.mounted = some i → ∃ t r, s.tools[i] = some t ∧ t.active = some r) :
    ∀ i, s.cycle.mounted = some i → ∃ t r, s.promoteMounted.tools[i] = some t ∧ t.active = some r := by
  unfold State.promoteMounted
  split
  · exact recipe
  next j _ =>
    split
    · simpa using CycleShape.promote recipe j
    · exact recipe

/-- STANDBY is entered with a tool mounted, and the reasons are evaluated (R93). -/
theorem CycleInv.of_standby (mounted : s.cycle.mounted ≠ none)
    (recipe : ∀ i, s.cycle.mounted = some i → ∃ t r, s.tools[i] = some t ∧ t.active = some r) :
    CycleInv (s.enter .standby).evaluate :=
  CycleShape.evaluate ⟨⟨nofun, fun h => absurd h mounted⟩, recipe, nofun⟩

theorem CycleShape.closeCycle (shape : CycleShape s) (tool : s.cycle.mounted ≠ none) : CycleInv s.closeCycle := by
  have mounted : s.closeRecord.idleCure.cycle.mounted = s.cycle.mounted := congrArg Charges.mounted s.closeRecord_charges
  have tools : s.closeRecord.idleCure.tools = s.tools := by simp
  have cycle : s.closeRecord.idleCure.promoteMounted.cycle = s.closeRecord.idleCure.cycle := by simp
  have recipe := CycleShape.promoteMounted (s := s.closeRecord.idleCure) (by rw [mounted, tools]; exact shape.recipe)
  refine CycleInv.of_standby ?_ ?_ <;> rw [cycle]
  · rwa [mounted]
  · exact recipe

theorem CycleInv.mounted_of_running (inv : CycleInv s) (running : s.cycle.state.running = true) : s.cycle.mounted ≠ none := by
  intro none
  rw [inv.mounted.2 none] at running
  cases running

end

theorem keptByPress_cycle : KeptByPress CycleInv where
  same _ _ same inv := inv.of_eq (congrArg (·.1) same :) (congrArg (·.2.1) same :) (congrArg (·.2.2.2.1) same :)
    (congrArg (·.2.2.2.2.2.1.master) same :) (congrArg (·.2.2.2.2.2.2.1.eStop) same :) (congrArg (·.2.2.2.2.2.2.2) same :)
    (congrArg (·.2.2.1) same :)
  write s f _ inv := inv.of_conditions rfl rfl (State.conditions_congr rfl rfl (fun _ => rfl) rfl (by simp) rfl)
  flags s _ _ _ inv := by
    obtain ⟨shape, judged⟩ := (cycleInv_iff s).1 inv
    refine (cycleInv_iff _).2 ⟨⟨shape.mounted, shape.recipe, shape.unused⟩, fun waits => ?_⟩
    have now := judged waits
    exact ⟨now.reasons, now.ready, now.state⟩
  enter s st running runs inv := by
    refine CycleShape.inv_of_other ⟨⟨fun h => ?_, fun none => absurd none (inv.mounted_of_running running)⟩, inv.recipe,
      fun _ => ⟨rfl, rfl⟩⟩ (CycleState.waits_of_running runs)
    have state : st = .noTool := h
    rw [state] at runs
    cases runs
  close s running inv := inv.shape.closeCycle (inv.mounted_of_running running)

end Sys2Proof.Machine
end

section
/-! PROOF. Every command and every event keeps the ready reasons in agreement with the part (R93 to R95). -/

namespace Sys2Proof.Machine

/-! ## Changes of the conditions -/

section
variable {s : State} (inv : CycleInv s)
include inv

theorem CycleInv.setScale (v : Scale) : CycleInv (s.setScale v) := inv.of_eq rfl rfl rfl rfl rfl rfl rfl

theorem CycleInv.post (k : NoticeKind) (u : Subject) (v : Option Int) : CycleInv (s.post k u v) :=
  inv.of_eq rfl rfl rfl rfl rfl rfl rfl

/-- A change of the queue is reported where it changes the set of short cavities (R82). -/
theorem CycleInv.changeQueue (q : List ChargeEntry) : CycleInv (s.changeQueue q) := by
  obtain ⟨same, short⟩ | same := s.changeQueue_cases q <;> rw [same]
  · exact inv.of_conditions rfl rfl (State.conditions_congr rfl rfl (fun _ => rfl) short rfl rfl)
  · exact CycleShape.evaluate (inv.shape.of_eq rfl rfl)

/-- A change of the ring is reported where it fills or frees the ring, or spends or restores the serials (R147). -/
theorem CycleInv.changeRing (r : Ring) : CycleInv (s.changeRing r) := by
  obtain ⟨same, full, spent⟩ | same := s.changeRing_cases r <;> rw [same]
  · exact inv.of_conditions rfl rfl (State.conditions_congr rfl rfl (fun _ => rfl) rfl full spent)
  · exact CycleShape.evaluate (inv.shape.of_eq rfl rfl)

/-- An event of one zone is reported where a used zone arrives at SETTLED or departs from it (R33). -/
theorem CycleInv.applyZone (z : ZoneIx) (f : ZoneStep → ZoneStep) : CycleInv (s.applyZone z f) := by
  obtain ⟨same, unseen⟩ | ⟨same, _⟩ := s.applyZone_cases z f <;> rw [same]
  · refine inv.of_conditions (by simp) (by simp) (State.conditions_congr (by simp) (by simp) (fun y => ?_) ?_ (by simp) (by simp))
    · rw [State.usesZone_congr (State.mountedTool_congr (s := s) (by simp) (by simp))]
      by_cases h : z = y
      · subst h
        obtain unused | same := unseen
        · rw [unused, Bool.false_and, Bool.false_and]
        · simpa using congrArg (s.usesZone z && !·) (decide_eq_decide.2 same.symm)
      · simp [Fin.val_ne_of_ne h]
    · rw [State.cavityCount_congr (State.mountedTool_congr (s := s) (by simp) (by simp))]
      simp
  · exact CycleShape.evaluate (inv.shape.of_eq (by simp) (by simp))

end

/-- An edge of E_STOP is evaluated between cycles (R106, R107). -/
theorem CycleShape.stopCycle {s : State} (shape : CycleShape s) : CycleInv s.stopCycle := by
  cases waits : s.cycle.state.waits
  · have inv := shape.inv_of_other waits
    cases state : s.cycle.state
    case standby | ready => simp [state, CycleState.waits] at waits
    case noTool => simpa [State.stopCycle, state] using inv
    all_goals exact keptByPress_cycle.stopCycle_running inv (by rw [state]; rfl)
  · have same : s.stopCycle = s.evaluate := by
      unfold State.stopCycle
      split <;> simp_all [CycleState.waits]
    exact same ▸ shape.evaluate

theorem CycleShape.resumeCycle {s : State} (shape : CycleShape s) : CycleInv s.resumeCycle := by
  cases waits : s.cycle.state.waits
  · have inv := shape.inv_of_other waits
    cases state : s.cycle.state
    case standby | ready => simp [state, CycleState.waits] at waits
    case noTool => simpa [State.resumeCycle, state] using inv
    all_goals exact keptByPress_cycle.resumeCycle_running inv (by rw [state]; rfl)
  · have same : s.resumeCycle = s.evaluate := by
      unfold State.resumeCycle
      split <;> simp_all [CycleState.waits]
    exact same ▸ shape.evaluate

/-- NO_TOOL with no tool mounted and no reason is sound. -/
theorem CycleInv.of_noTool {s : State} (state : s.cycle.state = .noTool) (mounted : s.cycle.mounted = none)
    (reasons : s.cycle.reasons = ReadyReasons.none) (ready : s.cycle.ready = false) : CycleInv s :=
  CycleShape.inv_of_other ⟨⟨fun _ => mounted, fun _ => state⟩, by simp [mounted], fun _ => ⟨reasons, ready⟩⟩ (by rw [state]; rfl)

/-! ## The events -/

theorem keptByEvents_cycle : KeptByEvents CycleInv := keptByPress_cycle.events {
  queue := fun _ q inv => inv.changeQueue q
  inputs := fun _ _ same inv => inv.of_eq rfl rfl rfl rfl same.1 rfl rfl
  sample := fun s z r inv =>
    CycleInv.applyZone (s := s.zoneMoment z) (inv.of_eq rfl rfl rfl rfl rfl rfl rfl) z (·.sample r)
  window := fun _ inv => inv.of_eq rfl rfl rfl rfl rfl rfl rfl
  onTime := fun _ _ inv => inv.of_eq rfl rfl rfl rfl rfl rfl rfl
  stops := fun _ inv => CycleShape.stopCycle (inv.shape.of_eq (by simp) (by simp))
  resumes := fun _ inv => CycleShape.resumeCycle (inv.shape.of_eq (by simp) (by simp))
  reset := fun s held => by
    cases held <;> exact .of_noTool rfl rfl rfl rfl
  restart := fun s _ => by
    have cycle : s.restartAct.cycle = s.restartHeat.restartClose.restartUnmount.cycle := by simp [State.restartAct]
    have mounted : s.restartAct.cycle.mounted = none := by simp [cycle, State.restartUnmount, State.enter_cycle]
    exact .of_noTool rfl mounted rfl rfl }

/-! ## The commands -/

section
variable {s : State} (inv : CycleInv s)
include inv

/-- A slot that is not the mounted one is written or emptied. -/
theorem CycleInv.setTool {i : SlotIx} (other : s.cycle.mounted ≠ some i) (v : Option Tool) :
    CycleInv (s.setTools (s.tools.set i v)) := by
  have kept {j : SlotIx} (mounted : s.cycle.mounted = some j) : (s.tools.set i v)[j] = s.tools[j] := by
    have apart : i ≠ j := by
      rintro rfl
      exact other mounted
    simp [Fin.val_ne_of_ne apart]
  have tool : (s.setTools (s.tools.set i v)).mountedTool = s.mountedTool := by
    simp only [State.mountedTool, State.setTools_cycle, State.setTools_tools]
    split
    · rfl
    next j mounted => exact kept mounted
  refine (cycleInv_iff _).2 ⟨⟨inv.mounted, fun j mounted => ?_, inv.shape.unused⟩, fun waits => ?_⟩
  · have same := kept mounted
    rw [State.setTools_tools, same]
    exact inv.recipe j mounted
  · have conditions : (s.setTools (s.tools.set i v)).conditions = s.conditions :=
      State.conditions_congr rfl rfl (fun z => by rw [State.usesZone_congr (s := s) tool]; rfl)
        (by rw [State.cavityCount_congr (s := s) tool]; rfl) rfl rfl
    rw [conditions]
    exact ((cycleInv_iff s).1 inv).2 waits

/-- A recipe stored is no part of what the cycle controller reads, and one promoted is active. -/
theorem CycleInv.stageAndDispose {i : SlotIx} {t : Tool} (h : s.tools[i] = some t) (r : Recipe) :
    CycleInv ((s.stage i r).dispose i) := by
  have stored : CycleShape (s.stage i r) := by
    refine ⟨inv.mounted, fun j mounted => ?_, inv.shape.unused⟩
    obtain ⟨u, q, held, active⟩ := inv.recipe j mounted
    by_cases same : i = j
    · subst same
      rw [h] at held
      cases held
      exact ⟨{ t with staged := some r }, q, by simp [State.stage, h], active⟩
    · exact ⟨u, q, by simpa [State.stage, Fin.val_ne_of_ne same] using held, active⟩
  unfold State.dispose
  split
  next waits =>
    obtain ⟨_, running⟩ : (s.stage i r).isMounted i = true ∧ (s.stage i r).cycle.state.running = true := by
      simpa [State.recipeWaits] using waits
    exact stored.inv_of_other (CycleState.waits_of_running running)
  · split
    next mounted =>
      have promoted : (s.stage i r).promoteMounted.cycle = (s.stage i r).cycle := by simp
      refine CycleShape.evaluate ⟨?_, ?_, ?_⟩ <;> rw [promoted]
      · exact stored.mounted
      · exact CycleShape.promoteMounted stored.recipe
      · exact stored.unused
    next other =>
      rw [State.stage_promote h]
      exact (inv.setTool (by simpa [State.isMounted] using other) _).post _ _ _

omit inv in
theorem CycleInv.mountSlot {i : SlotIx} {t : Tool} {r : Recipe} (h : s.tools[i] = some t) (active : t.active = some r) :
    CycleInv (s.mountSlot i) := by
  have cycle : ((s.unmountFormer.setMounted (some i)).setWorkings).cycle.mounted = some i := by simp [State.setMounted]
  have tools : ((s.unmountFormer.setMounted (some i)).setWorkings).tools = s.tools := by simp
  refine CycleInv.of_standby ?_ ?_ <;> rw [cycle]
  · nofun
  · rintro _ ⟨⟩
    exact ⟨t, r, tools ▸ h, active⟩

end

/-- What changes a condition of R94 is followed by an evaluation, happens outside STANDBY and READY, or leaves the
conditions as they are. -/
theorem CycleInv.effect {s t : State} (inv : CycleInv s) (effect : Effect s t) : CycleInv t := by
  induction effect
  case define i body range free =>
    refine inv.setTool (fun mounted => ?_) _
    obtain ⟨_, other⟩ | ⟨_, empty⟩ := free
    · simp [State.isMounted, mounted] at other
    · obtain ⟨t, _, held, _⟩ := inv.recipe i mounted
      rw [State.empty_of_emptySlot empty] at held
      cases held
  case clear i other => exact inv.setTool (by simpa [State.isMounted] using other) _
  case stage held _ _ => exact inv.stageAndDispose held _
  case mount held active => exact CycleInv.mountSlot held active
  case unmount => exact .of_noTool rfl (by simp [State.unmountTool, State.enter_cycle, State.setMounted]) rfl rfl
  case start waits _ _ _ =>
    have mounted : s.cycle.mounted ≠ none := fun none => by
      rw [inv.mounted.2 none] at waits
      cases waits
    exact CycleShape.inv_of_other ⟨⟨nofun, fun none => absurd none mounted⟩, inv.recipe, fun _ => ⟨rfl, rfl⟩⟩ rfl
  case configure z _ =>
    rw [State.configureZone]
    exact inv.applyZone _ _
  case heat on =>
    rw [State.setMaster]
    split
    · exact inv
    · exact CycleShape.evaluate (inv.shape.of_eq (by simp) (by simp))
  case discard q => exact inv.changeQueue q
  case abort => exact keptByPress_cycle.abortCycle inv
  case abandon ejecting => exact keptByPress_cycle.abandon (by rw [ejecting]; rfl) inv
  case release | serial => exact inv.changeRing _
  all_goals exact inv.of_eq rfl rfl rfl rfl rfl rfl rfl

theorem keptByCommands_cycle : KeptByCommands CycleInv :=
  .of_effects (fun _ _ inv => inv.of_eq rfl rfl rfl rfl rfl rfl rfl) (fun _ _ inv => inv.of_eq rfl rfl rfl rfl rfl rfl rfl)
    fun _ _ effect inv => inv.effect effect

/-- Settles O56: whatever changes a condition of R94 is followed by an evaluation, or leaves the conditions as they are, or
happens outside STANDBY and READY; while RESET is held the part is in NO_TOOL. -/
theorem everyStepKeepsTheCycleSound : Obligations.EveryStepKeepsTheCycleSound := by
  intro s t held inv next
  refine keptByEvents_cycle.step keptByCommands_cycle (fun _ => id)
    (fun _ => inv.of_eq rfl rfl rfl rfl rfl rfl rfl) (fun pin q i => ?_) next
  have cycle : s.cycle = Cycle.reset := congrArg State.cycle (held pin)
  exact .of_noTool (s := (s.setPending q).setInputs i) (congrArg Cycle.state cycle) (congrArg Cycle.mounted cycle)
    (congrArg Cycle.reasons cycle) (congrArg Cycle.ready cycle)

end Sys2Proof.Machine
end

section
/-! PROOF. The part record ring stays sound (R138, R139, R141): a write into the open record, the close of it, a record
opened by START, and the two commands that change the ring. -/

namespace Sys2Proof.Machine

/-! ## Changes of the ring -/

/-- The ring's invariant reads the ring and whether the cycle runs. -/
theorem RingInv.of_eq {s t : State} (inv : RingInv s) (ring : t.ring = s.ring)
    (running : t.cycle.state.running = s.cycle.state.running) : RingInv t := by
  obtain ⟨places, rising, newest, opened, serials, next, verdict, takeout, cavities⟩ := inv
  exact ⟨ring ▸ places, ring ▸ rising, ring ▸ newest, by rw [ring, running, opened], ring ▸ serials, ring ▸ next,
    ring ▸ verdict, ring ▸ takeout, ring ▸ cavities⟩

/-- A change of every record that leaves serials and the number of cavities, and opens none. -/
theorem RingInv.map {s t : State} {g : PartRecord → PartRecord} (inv : RingInv s)
    (ring : t.ring = { s.ring with records := s.ring.records.map g }) (serial : ∀ r, (g r).serial = r.serial)
    (cavities : ∀ r, (g r).cavities.length = r.cavities.length)
    (verdict : ∀ r, (r.verdict = true ↔ r.faults = 0) → ((g r).verdict = true ↔ (g r).faults = 0))
    (takeout : ∀ r, (r.takeoutTime.isSome = true ↔ r.opened = false)
      → ((g r).takeoutTime.isSome = true ↔ (g r).opened = false))
    (closed : ∀ r, r.opened = false → (g r).opened = false)
    (running : s.ring.records.any (fun r => (g r).opened) = t.cycle.state.running) : RingInv t := by
  have each {p q : PartRecord → Prop} (held : ∀ r ∈ s.ring.records, p r) (kept : ∀ r, p r → q (g r)) :
      ∀ r ∈ t.ring.records, q r := by
    simpa [ring] using fun r mem => kept r (held r mem)
  refine ⟨by simpa [ring] using inv.places, ?_, ?_, by rw [ring]; simpa [Function.comp_def] using running,
    each inv.serials fun r h => by simpa [serial] using h, fun n free => ⟨(inv.next n (by simpa [ring] using free)).1,
      each (inv.next n (by simpa [ring] using free)).2 fun r h => by simpa [serial] using h⟩,
    each inv.verdict verdict, each inv.takeout takeout, each inv.cavities fun r h => by simpa [cavities] using h⟩
  · simpa [ring, List.pairwise_map, serial] using inv.rising
  · simpa [ring, ← List.map_dropLast] using fun r mem => closed r (inv.newest r mem)

/-- A write into the open record, or nothing where there is none. -/
theorem RingInv.updateOpen {s : State} (inv : RingInv s) {f : PartRecord → PartRecord} (written : PartRecord.Written f) :
    RingInv (s.updateOpen f) := by
  refine inv.map (g := fun r => if r.opened then f r else r) rfl (fun r => ?_) (fun r => ?_) (fun r h => ?_) (fun r h => ?_)
    (fun r h => ?_) ?_
  · split <;> simp [written.serial]
  · split <;> simp [written.cavities]
  · split
    · exact written.verdict r h
    · exact h
  · split
    · rw [written.takeout, written.opened]
      exact h
    · exact h
  · simp [h]
  · refine Eq.trans (congrArg (List.any s.ring.records) (funext fun r => ?_)) inv.running
    split <;> simp [written.opened]

/-- The open record is CLOSED with its take-out time where the cycle runs no longer (R143). -/
theorem RingInv.closed {s t : State} (inv : RingInv s) (ring : t.ring = s.closeRecord.ring)
    (stopped : t.cycle.state.running = false) : RingInv t := by
  rw [State.closeRecord_ring] at ring
  refine inv.map ring (fun r => ?_) (fun r => ?_) (fun r h => ?_) (fun r h => ?_) (fun r h => ?_) ?_
  · split <;> rfl
  · split <;> rfl
  · split <;> exact h
  · split
    · simp
    · exact h
  · simp [h]
  · rw [stopped, List.any_eq_false]
    intro r _
    split <;> simp_all

theorem State.evaluate_running (s : State) : s.evaluate.cycle.state.running = s.cycle.state.running := by
  cases waits : s.cycle.state.waits
  · rw [s.evaluate_other waits]
  · rw [s.evaluate_waits waits]
    rw [CycleState.running_of_waits waits]
    exact iteInduction (motive := fun x : CycleState => x.running = false) (fun _ => rfl) fun _ => rfl

theorem keptByPress_ring : KeptByPress RingInv where
  same _ _ same inv := inv.of_eq (congrArg (·.2.2.1) same :) (congrArg (·.2.1.state.running) same :)
  write _ _ written inv := inv.updateOpen written
  flags _ _ _ _ inv := inv.of_eq rfl rfl
  enter _ _ running runs inv := inv.of_eq rfl (runs.trans running.symm)
  close s _ inv := by
    obtain ⟨ring, waits, _⟩ := s.closeCycle_leaves
    exact inv.closed ring (CycleState.running_of_waits waits)

theorem keptByReports_ring : KeptByReports RingInv where
  agree _ _ _ cycle ring inv := inv.of_eq ring (by rw [cycle])
  evaluate s inv := inv.of_eq (by simp) s.evaluate_running

/-! ## Reset and RESTART -/

/-- The empty ring of a part in NO_TOOL is sound (R139). -/
theorem RingInv.of_reset {s : State} (ring : s.ring = Ring.reset) (state : s.cycle.state = .noTool) : RingInv s := by
  have records : s.ring.records = [] := by rw [ring]; rfl
  refine ⟨by simp [records], by simp [records], by simp [records], by simp [records, state, CycleState.running],
    by simp [records], fun n free => ⟨?_, by simp [records]⟩, by simp [records], by simp [records], by simp [records]⟩
  rw [ring] at free
  obtain rfl : 1 = n := by simpa [Ring.reset] using free
  omega

/-- RESTART closes the record of a running cycle and leaves NO_TOOL (R109). -/
theorem RingInv.restartAct {s : State} (inv : RingInv s) : RingInv s.restartAct := by
  obtain ⟨_, ring, _⟩ := s.restartAct_left
  obtain ⟨_, _, cycle, same⟩ := s.restartHeat_left
  have stopped : s.restartAct.cycle.state.running = false := rfl
  have heat : RingInv s.restartHeat := inv.of_eq same (cycle ▸ rfl)
  unfold State.restartClose at ring
  split at ring
  · have findings : RingInv s.restartHeat.restartFindings := by
      unfold State.restartFindings
      split
      · exact keptByPress_ring.endCure heat
      · exact heat.updateOpen (PartRecord.written_of_eq (fun _ => rfl) (fun _ => rfl) (fun _ => rfl) (fun _ => rfl)
          (fun _ => rfl) fun _ => rfl)
      all_goals exact heat
    exact (keptByPress_ring.markAborted findings _).closed (by simpa using ring) stopped
  next rests => exact heat.of_eq ring (stopped.trans (by simpa using rests))

theorem keptByEvents_ring : KeptByEvents RingInv :=
  keptByReports_ring.events keptByPress_ring (fun _ _ => .of_reset rfl rfl) fun _ inv => inv.restartAct

/-! ## The commands that change the ring or the cycle -/

section
variable {s : State} (inv : RingInv s)
include inv

theorem RingInv.closed_of_stopped (stopped : s.cycle.state.running = false) : ∀ r ∈ s.ring.records, r.opened = false := by
  simpa [stopped] using inv.running

omit inv in
theorem nextSerialAfter_eq_some {k n : Nat} (after : nextSerialAfter k = some n) : k + 1 = n ∧ k < 4294967295 := by
  by_cases spent : Config.maxSerial ≤ k
  · rw [nextSerialAfter, if_pos spent] at after
    cases after
  · rw [nextSerialAfter, if_neg spent] at after
    exact ⟨Option.some.inj after, Nat.lt_of_not_le spent⟩

/-- A record opened as the newest, in a cycle that did not run, under the next serial (R98, R138, R140). -/
theorem RingInv.open {c : Cycle} {r : PartRecord} (stopped : s.cycle.state.running = false) (runs : c.state.running = true)
    (place : s.ring.records.length < 48) (serial : s.ring.nextSerial = some r.serial) (opened : r.opened = true)
    (takeout : r.takeoutTime = none) (verdict : r.verdict = true ↔ r.faults = 0) (cavities : r.cavities.length ≤ 4) :
    RingInv ((s.setRing ⟨s.ring.records ++ [r], nextSerialAfter r.serial⟩).setCycle c) := by
  obtain ⟨range, below⟩ := inv.next _ serial
  have each {p : PartRecord → Prop} (held : ∀ q ∈ s.ring.records, p q) (last : p r) : ∀ q ∈ s.ring.records ++ [r], p q :=
    List.forall_mem_append.2 ⟨held, List.forall_mem_singleton.2 last⟩
  have last : r ∈ s.ring.records ++ [r] := List.mem_append_right _ (List.mem_singleton_self r)
  refine ⟨(List.length_append ..).trans_le place, List.pairwise_append.2 ⟨inv.rising, List.pairwise_singleton _ _, ?_⟩, ?_,
    (List.any_eq_true.2 ⟨r, last, opened⟩).trans runs.symm, each inv.serials range, fun n free => ?_, each inv.verdict verdict,
    each inv.takeout (iff_of_false ?_ ?_), each inv.cavities cavities⟩
  · exact fun q mem p new => List.mem_singleton.1 new ▸ below q mem
  · exact fun q mem => inv.closed_of_stopped stopped q ((List.dropLast_concat : (s.ring.records ++ [r]).dropLast = _) ▸ mem)
  · obtain ⟨rfl, small⟩ := nextSerialAfter_eq_some free
    exact ⟨⟨Nat.succ_pos _, small⟩, each (fun q mem => Nat.lt_succ_of_lt (below q mem)) (Nat.lt_succ_self _)⟩
  · rw [takeout]
    exact Bool.false_ne_true
  · rw [opened]
    exact Bool.false_ne_true.symm

omit inv in
theorem RingInv.changeRing {r : Ring} (changed : RingInv (s.setRing r)) : RingInv (s.changeRing r) := by
  obtain ⟨same, _⟩ | same := s.changeRing_cases r <;> rw [same]
  · exact changed
  · exact changed.of_eq (by simp) (State.evaluate_running _)

omit inv in
theorem length_of_takeSet {cs : List Nat} {q charges rest : List ChargeEntry} (taken : takeSet cs q = some (charges, rest)) :
    charges.length = cs.length := by
  induction cs generalizing q charges rest with
  | nil => exact (congrArg (fun p : List ChargeEntry × List ChargeEntry => p.1.length) (Option.some.inj taken)).symm
  | cons c cs ih =>
    rw [takeSet] at taken
    generalize takeOldest c q = first at taken
    cases first with
    | none => exact absurd taken.symm (Option.some_ne_none _)
    | some p =>
      obtain ⟨_, more, same⟩ := Option.map_eq_some_iff.1 taken
      exact (congrArg (fun p : List ChargeEntry × List ChargeEntry => p.1.length) same).symm.trans (congrArg Nat.succ (ih more))

omit inv in
theorem State.startNeeds_eq {i : SlotIx} {t : Tool} {r : Recipe} {n : Nat} (mounted : s.cycle.mounted = some i)
    (tool : s.mountedTool = some t) (recipe : s.activeRecipe = some r) (serial : s.ring.nextSerial = some n) :
    s.startNeeds = .ok (i, t, r, n) := by
  rw [State.startNeeds, mounted, tool, recipe, serial]

omit inv in
theorem State.startNeeds_spent {i : SlotIx} {t : Tool} {r : Recipe} (mounted : s.cycle.mounted = some i)
    (tool : s.mountedTool = some t) (recipe : s.activeRecipe = some r) (serial : s.ring.nextSerial = none) :
    s.startNeeds = .error .serialSpent := by
  rw [State.startNeeds, mounted, tool, recipe, serial]

omit inv in
/-- START passes its tests in a ring that is not full (R97). -/
theorem notFull_of_passes {c : ReadyReasons} {force : Bool} (passes : startRefusal c force = none) : c.ringFull = false := by
  refine Bool.eq_false_iff.2 fun full => absurd passes (iteInduction (motive := fun st : Option Status => st ≠ none)
    (fun _ => Option.some_ne_none _) fun _ => iteInduction (motive := fun st : Option Status => st ≠ none)
    (fun _ => Option.some_ne_none _) fun _ => ?_)
  rw [if_pos full]
  exact Option.some_ne_none _

/-- START opens a record in a ring with a free place, under a serial not spent (R97, R98). -/
theorem RingInv.start (cycle : CycleInv s) (tools : ToolInv s) {i : SlotIx} {t : Tool} {r : Recipe} {n : Nat}
    {charges rest : List ChargeEntry} {force : Bool} (waits : s.cycle.state.waits = true)
    (passes : startRefusal s.cycle.reasons force = none) (needs : s.startNeeds = .ok (i, t, r, n))
    (taken : takeSet (List.range' 1 t.cavityCount) s.queue = some (charges, rest)) :
    RingInv (s.startCycle i t r n charges rest) := by
  have free := notFull_of_passes passes
  rw [cycle.agree waits] at free
  obtain ⟨j, mounted⟩ : ∃ j, s.cycle.mounted = some j := Option.ne_none_iff_exists'.1 fun none => by
    rw [cycle.mounted.2 none] at waits
    cases waits
  obtain ⟨u, q, held, active⟩ := cycle.recipe j mounted
  have tool : s.mountedTool = some u := by
    rw [State.mountedTool, mounted]
    exact held
  have recipe : s.activeRecipe = some q := by
    rw [State.activeRecipe, tool]
    exact active
  cases number : s.ring.nextSerial with
  | none => cases (State.startNeeds_spent mounted tool recipe number).symm.trans needs
  | some m =>
  cases (State.startNeeds_eq mounted tool recipe number).symm.trans needs
  refine (inv.open (c := (s.startCycle i t r n charges rest).cycle) (r := s.newRecord i t r n charges)
    (CycleState.running_of_waits waits) rfl (Nat.lt_of_not_le (of_decide_eq_false free)) number rfl rfl ?_ ?_).of_eq rfl rfl
  · show (!s.cycle.reasons.notSettled) = true ↔ (if s.cycle.reasons.notSettled = true then FaultSet.add 0 .notSettledAtStart else 0) = 0
    cases s.cycle.reasons.notSettled
    · exact iff_of_true rfl rfl
    · exact iff_of_false Bool.false_ne_true (FaultSet.add_ne_zero 0 .notSettledAtStart)
  · have count := (length_of_takeSet taken).trans List.length_range'
    exact ((List.length_map _).trans count).trans_le (tools.sound _ t held).cavities.2

/-- The records released are CLOSED ones from the oldest on (R146). -/
theorem RingInv.release (n : Nat) :
    RingInv (s.changeRing { s.ring with records := s.ring.records.dropWhile (·.releasable n) }) := by
  refine .changeRing ?_
  obtain ⟨taken, split, released⟩ : ∃ taken, taken ++ s.ring.records.dropWhile (·.releasable n) = s.ring.records
      ∧ ∀ r ∈ taken, r.opened = false := by
    refine ⟨_, List.takeWhile_append_dropWhile, fun r mem => ?_⟩
    have releasable := List.mem_takeWhile_imp mem
    simp only [PartRecord.releasable, Bool.and_eq_true, Bool.not_eq_true'] at releasable
    exact releasable.1
  have tail : (s.ring.records.dropWhile (·.releasable n)) <:+ s.ring.records := List.dropWhile_suffix _
  have sub {r : PartRecord} : r ∈ s.ring.records.dropWhile (·.releasable n) → r ∈ s.ring.records :=
    fun mem => tail.subset mem
  refine ⟨tail.length_le.trans inv.places, inv.rising.sublist tail.sublist, fun r mem => ?_, ?_,
    fun r mem => inv.serials r (sub mem), fun n free => ⟨(inv.next n free).1, fun r mem => (inv.next n free).2 r (sub mem)⟩,
    fun r mem => inv.verdict r (sub mem), fun r mem => inv.takeout r (sub mem), fun r mem => inv.cavities r (sub mem)⟩
  · obtain none | other := eq_or_ne (s.ring.records.dropWhile (·.releasable n)) []
    · simp [none] at mem
    · refine inv.newest r ?_
      rw [← split, List.dropLast_append_of_ne_nil other]
      exact List.mem_append_right _ mem
  · refine Eq.trans ?_ inv.running
    conv_rhs => rw [← split, List.any_append, List.any_eq_false.2 fun r mem => by simp [released r mem], Bool.false_or]
    rfl

/-- A next serial is set above the newest record's (R144, R147). -/
theorem RingInv.serial {n : Nat} (range : 1 ≤ n ∧ n ≤ 4294967295)
    (above : ∀ r, s.ring.records.getLast? = some r → r.serial < n) :
    RingInv (s.changeRing { s.ring with nextSerial := some n }) := by
  refine .changeRing ⟨inv.places, inv.rising, inv.newest, inv.running, inv.serials, fun m free => ?_, inv.verdict,
    inv.takeout, inv.cavities⟩
  obtain rfl : n = m := Option.some.inj free
  refine ⟨range, fun r mem => ?_⟩
  have mem : r ∈ s.ring.records := mem
  obtain none | ⟨front, q, split⟩ := List.eq_nil_or_concat s.ring.records
  · simp [none] at mem
  · have newest : q.serial < n := above q (by simp [split])
    have rising := inv.rising
    rw [split, List.concat_eq_append, List.pairwise_append] at rising
    obtain ⟨_, _, below⟩ := rising
    rw [split, List.concat_eq_append, List.mem_append, List.mem_singleton] at mem
    obtain mem | rfl := mem
    · exact (below r mem q (List.mem_singleton.2 rfl)).trans newest
    · exact newest

omit inv in
theorem State.dispose_running (i : SlotIx) : (s.dispose i).cycle.state.running = s.cycle.state.running := by
  unfold State.dispose
  split
  · rfl
  · split
    · exact (State.evaluate_running _).trans (by simp)
    · simp

end

/-! ## Every step -/

/-- A record is opened by START alone, and what releases records or sets the serial keeps the ring sound. -/
theorem RingInv.effect {s t : State} (inv : RingInv s) (cycle : CycleInv s) (tools : ToolInv s) (effect : Effect s t) :
    RingInv t := by
  induction effect
  case stage i _ _ _ _ _ => exact inv.of_eq (State.dispose_ring _ i) ((State.dispose_running i).trans (by simp))
  case mount i _ _ stopped _ _ => exact inv.of_eq (s.mountSlot_left i).2.1 ((State.evaluate_running _).trans stopped.symm)
  case unmount waits => exact inv.of_eq s.unmountTool_left.2.1 (CycleState.running_of_waits waits).symm
  case start waits passes needs taken => exact inv.start cycle tools waits passes needs taken
  case configure z _ => exact keptByReports_ring.configureZone inv z _
  case heat on => exact keptByReports_ring.setMaster inv on
  case discard q => exact keptByReports_ring.changeQueue inv q
  case abort => exact keptByPress_ring.abortCycle inv
  case abandon ejecting => exact keptByPress_ring.abandon (by rw [ejecting]; rfl) inv
  case release n => exact inv.release n
  case serial range above => exact inv.serial range above
  case define => exact inv.of_eq (by simp) (by simp)
  all_goals exact inv.of_eq rfl rfl

/-- The ring is kept together with the cycle and the tool table, which START reads (R97). -/
theorem keptByCommands_ring : KeptByCommands (fun s => (CycleInv s ∧ ToolInv s) ∧ RingInv s) :=
  .of_effects (fun _ _ h => ⟨⟨h.1.1.of_eq rfl rfl rfl rfl rfl rfl rfl, h.1.2.of_eq rfl rfl id⟩, h.2.of_eq rfl rfl⟩)
    (fun _ _ h => ⟨⟨h.1.1.of_eq rfl rfl rfl rfl rfl rfl rfl, h.1.2.of_eq rfl rfl id⟩, h.2.of_eq rfl rfl⟩)
    fun _ _ effect h => ⟨⟨h.1.1.effect effect, h.1.2.effect effect⟩, h.2.effect h.1.1 h.1.2 effect⟩

/-- Settles O57: a record is opened only by START, written only while open and closed with the end of the running states;
a release takes CLOSED records from the oldest on. -/
theorem everyStepKeepsTheRingSound : Obligations.EveryStepKeepsTheRingSound := by
  intro s t cycle tools inv next
  refine ((keptByEvents_cycle.and keptByEvents_tools).and keptByEvents_ring).step keptByCommands_ring (fun _ h => h.2)
    (fun q => ⟨⟨cycle.of_eq rfl rfl rfl rfl rfl rfl rfl, tools.of_eq rfl rfl id⟩, inv.of_eq rfl rfl⟩)
    (fun _ _ _ => inv.of_eq rfl rfl) next

end Sys2Proof.Machine
end

section
/-! PROOF. The port: its bytes, its own commands and the end of an answer; and the reset state. -/

namespace Sys2Proof.Machine

/-- Settles O11: without RESTART taken only the port's answer goes. -/
theorem answerSentClearsWhatIsOwed : Obligations.AnswerSentClearsWhatIsOwed := by
  intro s pin owed other
  have port : s.port.answered = { s.port with answerOwed := false, answer := none } := congrArg (Port.mk s.port.receive false none) other.symm
  change Host.Outcome.next (s.unlessHeld (if s.port.answerOwed then s.answerSent else s)) = _
  rw [s.unlessHeld_released _ pin, if_pos owed, State.answerSent, other, ← port]
  rfl

/-- Settles O28: the row's own condition decides. -/
theorem onTimeEndSwitchesOff : Obligations.OnTimeEndSwitchesOff := by
  intro s z pin on
  have row : exec (.onTimeEnd z) s = .next (if s.heaters[z].output ∧ s.heaters[z].onTime < s.drive.windowLength
      then (s.onTimeMoment z).outputOff z else s) := congrArg Host.Outcome.next (s.unlessHeld_released _ pin)
  rw [row]
  refine ⟨fun ends => ⟨_, congrArg _ (if_pos ⟨on, ends⟩), rfl, ?_⟩, fun whole => ?_⟩
  · change _ ≤ min s.drive.windowLength (s.timers.window + (s.heaters[z].onTime - s.timers.window))
    exact Nat.le_min.2 ⟨ends.le, Nat.sub_le_iff_le_add'.1 le_rfl⟩
  · exact congrArg _ (if_neg fun ends => absurd ends.2 (Nat.not_lt.2 whole))

/-! ## One byte -/

/-- A byte that ends no telegram leaves the receive state that it makes, and the gap timer at 0 (R149). -/
theorem State.receive_goesOn {s : State} {b : RxByte} {r : Receive} (pin : s.inputs.resetPin = false)
    (goes : receiveByte s.receiveState b = .goesOn r) :
    s.receive b = (s.setTimers { s.timers with gap := 0 }).setPort { s.port with receive := r } := by
  rw [State.receive, goes]
  exact s.unlessHeld_released _ pin

/-- A hunting port is judged hunting, gap or not. -/
theorem State.receiveState_hunting {s : State} (hunting : s.port.receive = .hunting) : s.receiveState = .hunting := by
  rw [State.receiveState, hunting, ite_self]

/-- A hunting port takes up no byte but a clean sync byte (R149). -/
theorem receiveByte_hunting {b : RxByte} (other : b.framingError = true ∨ b.value ≠ 0xC3) :
    receiveByte .hunting b = .goesOn .hunting := by
  unfold receiveByte
  split
  · rfl
  next clean => exact congrArg _ (if_neg (other.resolve_left clean))

/-- A byte within a telegram that is still incomplete with it is kept (R149). -/
theorem receiveByte_data {length : Byte} {rest : List Byte} (v : Byte) (low : 2 ≤ length.toNat) (high : length.toNat ≤ 242)
    (short : rest.length < length.toNat + 1) :
    receiveByte (.receiving (length :: rest)) ⟨v, false⟩ = .goesOn (.receiving (length :: (rest ++ [v]))) := by
  change (if length.toNat < 2 ∨ 242 < length.toNat then _ else if (rest ++ [v]).length < length.toNat + 2 then _ else _) = _
  rw [if_neg (not_or.2 ⟨Nat.not_lt.2 low, Nat.not_lt.2 high⟩),
    if_pos (by rw [List.length_append]; exact Nat.succ_lt_succ short)]
  rfl

/-- Settles O5: what one byte makes of each receive state, and the gap timer. -/
theorem syncByteAndGap : Obligations.SyncByteAndGap := by
  intro s pin
  refine ⟨fun hunting => ?_, fun length rest receiving within low high short => ?_, fun buffer receiving => ⟨s.gapMoment.hunt, ?_, rfl⟩,
    fun after => ⟨?_, fun b other => ?_⟩⟩
  · exact congrArg _ (State.receive_goesOn pin (by rw [State.receiveState_hunting hunting]; rfl))
  · exact congrArg _ (State.receive_goesOn pin (by rw [s.receiveState_within within, receiving]; exact receiveByte_data _ low high short))
  · change Host.Outcome.next (s.unlessHeld _) = _
    rw [s.unlessHeld_released _ pin, receiving]
  · exact congrArg _ (State.receive_goesOn pin (by rw [s.receiveState_after after]; rfl))
  · exact congrArg _ (State.receive_goesOn pin (by rw [s.receiveState_after after]; exact receiveByte_hunting other))

/-! ## IDENTIFY, SET CLOCK and RESTART -/

/-- The last byte of a number that ends in it. -/
theorem byte_append (n : Nat) (b : Byte) : byte (n * 256 + b.toNat) = b :=
  BitVec.eq_of_toNat_eq (by rw [toNat_byte, Nat.mul_add_mod', Nat.mod_eq_of_lt b.isLt])

/-- What stands before that byte. -/
theorem append_byte_div (n : Nat) (b : Byte) : (n * 256 + b.toNat) / 256 = n := by
  rw [Nat.mul_comm, Nat.mul_add_div (by decide), Nat.div_eq_of_lt b.isLt, Nat.add_zero]

/-- Four bytes are the four-byte field of the number they make. -/
theorem be32_bytes (a b c d : Byte) :
    be32 (((a.toNat * 256 + b.toNat) * 256 + c.toNat) * 256 + d.toNat) = [a, b, c, d] := by
  rw [be32, show 16777216 = 256 * (256 * 256) from rfl, show 65536 = 256 * 256 from rfl]
  simp only [← Nat.div_div_eq_div_mul, append_byte_div, byte_append, byte_toNat]

/-- The number that four bytes make, as it is read from a body. -/
theorem u32_bytes (a b c d : Byte) :
    u32 [a, b, c, d] 0 = ((a.toNat * 256 + b.toNat) * 256 + c.toNat) * 256 + d.toNat := by
  change (a.toNat * 256 + b.toNat) * (256 * 256) + (c.toNat * 256 + d.toNat) = _
  rw [Nat.add_mul _ c.toNat, Nat.mul_assoc, Nat.add_assoc]

/-- Settles O8: each command's own rule, over a body of its length or not. -/
theorem portCommandsComplete : Obligations.PortCommandsComplete := by
  intro s guard accepted
  refine ⟨fun body => ⟨fun some => ⟨?_, ?_⟩, fun long => ?_⟩, ?_, ?_, fun a b c d => ?_⟩
  · exact exec_badLength accepted rfl rfl (length_beq_zero some)
  · exact exec_badLength accepted rfl rfl (length_beq_zero some)
  · exact exec_badLength accepted rfl rfl (beq_eq_false_iff_ne.2 long)
  · exact exec_answered accepted rfl rfl
  · exact exec_answered accepted rfl rfl
  · have row : exec (.setClock guard [a, b, c, d]) s = .next ((s.setClocks { s.clocks with part := u32 [a, b, c, d] 0 }).answering
        0x05 .done (be32 (u32 [a, b, c, d] 0))) := exec_answered accepted rfl rfl
    rwa [u32_bytes, be32_bytes] at row

/-! ## READ STATUS and READ NOTICES -/

/-- The states that wait for START are those with ready reasons (R94). -/
theorem CycleState.waits_iff (c : CycleState) : c.waits = true ↔ c = .standby ∨ c = .ready := by
  cases c <;> decide

/-- A flag counts as its weight. -/
theorem mul_toNat (k : Nat) (b : Bool) : k * b.toNat = if b = true then k else 0 := by
  cases b
  · exact Nat.mul_zero k
  · exact Nat.mul_one k

/-- The reasons as READ STATUS carries them: the sum of their weights, and 0 where none are reported (R110, 10.6). -/
theorem State.reportedReasons_byte (s : State) : s.reportedReasons.byte
    = byte (if s.cycle.state = .standby ∨ s.cycle.state = .ready then
        (if s.cycle.reasons.heatOff then 1 else 0) + (if s.cycle.reasons.estop then 2 else 0)
          + (if s.cycle.reasons.notSettled then 4 else 0) + (if s.cycle.reasons.noCharge then 8 else 0)
          + (if s.cycle.reasons.ringFull then 16 else 0) + (if s.cycle.reasons.serialSpent then 32 else 0)
        else 0) := by
  by_cases reported : s.cycle.state.waits = true
  · rw [if_pos ((CycleState.waits_iff _).1 reported), State.reportedReasons, if_pos reported, ReadyReasons.byte]
    rw [← Nat.one_mul (Bool.toNat _)]
    simp only [mul_toNat]
  · rw [if_neg (mt (CycleState.waits_iff _).2 reported), State.reportedReasons, if_neg reported]
    rfl

/-- Settles O9: the summary item by item. -/
theorem readStatusReportsTheSummary : Obligations.ReadStatusReportsTheSummary := by
  intro s guard accepted
  refine ⟨fun body some => exec_badLength accepted rfl rfl (length_beq_zero some), ?_⟩
  have row : exec (.readStatus guard []) s = .next (s.answering 0x02 .done s.statusSummary) := exec_answered accepted rfl rfl
  rw [row, State.statusSummary, s.reportedReasons_byte]
  cases s.ring.nextSerial <;> rfl

/-- Settles O10: the oldest eight leave, and ATTN follows what is left. -/
theorem readNoticesTakesTheOldestEight : Obligations.ReadNoticesTakesTheOldestEight := by
  intro s guard accepted
  refine ⟨fun body some => exec_badLength accepted rfl rfl (length_beq_zero some), ?_⟩
  have row : exec (.readNotices guard []) s = .next ((s.setNotices s.notices.reported).answering 0x04 .done
      (flag s.notices.lapsed :: byte (s.notices.list.take 8).length :: ((s.notices.list.take 8).map (·.bytes)).flatten)) :=
    exec_answered accepted rfl rfl
  have left : s.notices.reported = ⟨s.notices.list.drop 8, false, !(s.notices.list.drop 8).isEmpty⟩ :=
    congrArg (NoticeQueue.mk _ _) (Bool.or_false _)
  rw [row, List.length_take, left]
  rfl

/-! ## The reset state -/

/-- A zone at its reset values is sound (R19, R39). -/
theorem zoneInv_reset : ZoneInv State.reset := fun z =>
  ⟨by revert z; decide, by revert z; decide, by revert z; decide, by revert z; decide, by revert z; decide,
    by revert z; decide, by revert z; decide, by revert z; decide, by revert z; decide⟩

/-- Settles O60: each block at its reset values. -/
theorem theResetStateIsSound : Obligations.TheResetStateIsSound :=
  ⟨⟨trivial, rfl, by decide⟩, ⟨by decide, rfl⟩, fun pin => absurd pin Bool.false_ne_true, zoneInv_reset, (scaleInv_iff _).2 Scale.sound_reset, toolInv_reset,
    ⟨by decide, by decide⟩, ⟨by decide, by decide, by decide, by decide⟩, .of_noTool rfl rfl rfl rfl, .of_reset rfl rfl,
    ⟨by decide, by decide, fun _ => rfl, fun _ h => absurd h.symm (Option.some_ne_none _),
      fun _ h => absurd h.symm (Option.some_ne_none _)⟩, .nil,
    ⟨by decide, by decide, by decide, fun _ _ h => absurd h List.not_mem_nil, fun _ h => absurd h List.not_mem_nil,
      fun _ _ h => absurd h List.not_mem_nil⟩⟩

end Sys2Proof.Machine
end

section
/-! PROOF. Commands that store a setting, and those that begin work at the scale. -/

namespace Sys2Proof.Machine

/-! ## SET WINDOW and SET SUPPLY -/

/-- What a command answers that stores a value near the one it was sent. -/
theorem Reply.doneOr_ne (s : State) (w v : Nat) (body : List Byte) :
    Reply.doneOr (w != v) s body = ⟨s, if w = v then .done else .doneClamped, body⟩ := by
  by_cases same : w = v
  · rw [same, bne_self_eq_false, if_pos rfl]
    rfl
  · rw [bne_iff_ne.2 same, if_neg same]
    rfl

/-- The multiple of 250 nearest a number, midway going up, by its remainder (R55). -/
theorem nearest_multiple (v : Nat) : (v + 125) / 250 * 250 = if v % 250 < 125 then v - v % 250 else v - v % 250 + 250 := by
  have carry : (v + 125) / 250 = (v % 250 + 125) / 250 + v / 250 := by
    conv_lhs => rw [← Nat.mod_add_div v 250, Nat.add_right_comm, Nat.add_mul_div_left _ _ (by decide)]
  have rest : v % 250 < 250 := Nat.mod_lt v (by decide)
  rw [carry, ← Nat.div_mul_self_eq_mod_sub_self]
  split
  next low => rw [Nat.div_eq_of_lt (Nat.add_lt_add_right low 125), Nat.zero_add]
  next high =>
    rw [Nat.div_eq_of_lt_le (k := 1) (Nat.add_le_add_right (Nat.not_lt.1 high) 125) (Nat.add_lt_add_right rest 125 |>.trans (by decide)),
      Nat.add_mul, Nat.add_comm]

theorem setSupplyCommand_be32 (s : State) {v : Nat} (fits : v < 4294967296) : setSupplyCommand (be32 v) s =
    if 200000 < v then .refuse s .badValue
    else .doneOr (permittedBudget v != v) (s.setDrive { s.drive with budget := permittedBudget v }) (be32 (permittedBudget v)) := by
  rw [setSupplyCommand, u32_be32 fits]
  exact Reply.ofLength_true s _

/-- Settles O29: the stored value is the permitted one, by cases. -/
theorem windowAndSupplyAreStored : Obligations.WindowAndSupplyAreStored := by
  intro s guard v accepted
  refine ⟨fun body => ⟨fun long => ?_, fun long => ?_⟩, fun fits => ?_, fun fits => ?_, fun high fits => ?_⟩
  · exact exec_badLength accepted rfl rfl (beq_eq_false_iff_ne.2 long)
  · exact exec_badLength accepted rfl rfl (beq_eq_false_iff_ne.2 long)
  · dsimp only
    rw [← nearest_multiple]
    refine exec_answered accepted rfl (t := s.setDrive { s.drive with windowSetting := permittedWindow v }) ?_
    change Reply.doneOr (permittedWindow (u16 (be16 v) 0) != u16 (be16 v) 0) _ _ = _
    rw [u16_be16 v fits, Reply.doneOr_ne]
    rfl
  · refine exec_answered accepted rfl (t := s.setDrive { s.drive with budget := permittedBudget v })
      ((setSupplyCommand_be32 s.hunt (fits.trans_lt (by decide))).trans ?_)
    rw [if_neg (Nat.not_lt.2 fits), Reply.doneOr_ne]
    rfl
  · exact exec_refused accepted rfl ((setSupplyCommand_be32 s.hunt fits).trans (if_pos high))

/-! ## CAPTURE, the key, TARE and SPAN -/

section
variable {s : State}

theorem captureCommand_busy (busy : s.scale.capture ≠ .idle) : captureCommand [] s = .refuse s .wrongState := if_pos busy

theorem tareCommand_busy (busy : s.scale.capture ≠ .idle) : tareCommand [] s = .refuse s .wrongState := if_pos busy

theorem captureCommand_unarmed (idle : s.scale.capture = .idle) (unarmed : s.armedSnapshot = none) :
    captureCommand [] s = .refuse s .notArmed := by
  rw [captureCommand, if_neg (not_not.2 idle), unarmed]
  rfl

theorem captureCommand_armed (idle : s.scale.capture = .idle) {p : Snapshot} (armed : s.armedSnapshot = some p) :
    captureCommand [] s = .done (s.beginCapture p) [byte p.cavity] := by
  rw [captureCommand, if_neg (not_not.2 idle), armed]
  rfl

theorem State.keyRequest_busy (busy : s.scale.capture ≠ .idle) : s.keyRequest = s := if_pos busy

theorem State.keyRequest_unarmed (idle : s.scale.capture = .idle) (unarmed : s.armedSnapshot = none) : s.keyRequest = s := by
  rw [State.keyRequest, if_neg (not_not.2 idle), unarmed]

theorem State.keyRequest_armed (idle : s.scale.capture = .idle) {p : Snapshot} (armed : s.armedSnapshot = some p) :
    s.keyRequest = s.beginCapture p := by
  rw [State.keyRequest, if_neg (not_not.2 idle), armed]

theorem exec_captureKeyRising (pin : s.inputs.resetPin = false) {t : State} (request : s.keyRequest = t) (level : Bool) :
    exec (.captureKeyRising level) s = .next (t.setInputs { s.inputs with captureKey := level }) := by
  rw [← request]
  exact congrArg Host.Outcome.next (State.unlessHeld_released (s.setInputs { s.inputs with captureKey := level }) _ pin)

/-- SPAN, by the tests of R76. -/
theorem spanCommand_be16 {m : Nat} (fits : m < 65536) : spanCommand (be16 m) s =
    if m < 100 ∨ 65000 < m then .refuse s .badValue else if s.scale.capture ≠ .idle then .refuse s .wrongState
      else .done (s.beginMeasurement (.span m)) [] := by
  change (if u16 (be16 m) 0 < 100 ∨ 65000 < u16 (be16 m) 0 then _ else
    if _ then _ else Reply.done (s.beginMeasurement (.span (u16 (be16 m) 0))) []) = _
  rw [u16_be16 m fits]

/-- SPAN with a permitted mass (R76). -/
theorem spanCommand_permitted {m : Nat} (low : 100 ≤ m) (high : m ≤ 65000) : spanCommand (be16 m) s =
    if s.scale.capture ≠ .idle then .refuse s .wrongState else .done (s.beginMeasurement (.span m)) [] :=
  (spanCommand_be16 (high.trans_lt (by decide))).trans (if_neg (not_or.2 ⟨Nat.not_lt.2 low, Nat.not_lt.2 high⟩))

end

/-- Settles O32: by the capture state, and in IDLE by what is armed. -/
theorem scaleWorkBeginsInIdle : Obligations.ScaleWorkBeginsInIdle := by
  intro s pin
  refine ⟨fun guard accepted body => ⟨fun some => ⟨?_, ?_⟩, fun long => ?_⟩, fun idle a r e armed active entry => ?_,
    fun idle unarmed => ?_, fun idle guard accepted => ⟨?_, fun m low high => ?_⟩,
    fun busy => ⟨fun guard accepted => ⟨?_, ?_, fun m low high => ?_⟩, fun level => ?_⟩, fun guard accepted m fits out => ?_⟩
  · exact exec_badLength accepted rfl rfl (length_beq_zero some)
  · exact exec_badLength accepted rfl rfl (length_beq_zero some)
  · exact exec_badLength accepted rfl rfl (beq_eq_false_iff_ne.2 long)
  · have snapshot : s.armedSnapshot =
        some ⟨a.cavity, a.lot, a.ply, e.target, e.tolerance, e.outTime, s.scale.station.captureTimeout⟩ := by
      rw [State.armedSnapshot, armed]
      dsimp only
      rw [State.snapshotFor, active]
      dsimp only
      rw [entry]
      rfl
    exact ⟨fun guard accepted => exec_answered accepted rfl (captureCommand_armed (s := s.hunt) idle snapshot),
      exec_captureKeyRising pin (State.keyRequest_armed idle snapshot)⟩
  · have snapshot : s.armedSnapshot = none := by rw [State.armedSnapshot, unarmed]
    exact ⟨fun guard accepted => exec_refused accepted rfl (captureCommand_unarmed (s := s.hunt) idle snapshot),
      exec_captureKeyRising pin (State.keyRequest_unarmed idle snapshot)⟩
  · exact exec_answered accepted rfl (if_neg (not_not.2 idle))
  · exact exec_answered accepted rfl
      ((spanCommand_permitted low high).trans (if_neg (not_not.2 idle)))
  · exact exec_refused accepted rfl (captureCommand_busy (s := s.hunt) busy)
  · exact exec_refused accepted rfl (tareCommand_busy (s := s.hunt) busy)
  · exact exec_refused accepted rfl
      ((spanCommand_permitted low high).trans (if_pos busy))
  · exact exec_captureKeyRising pin (State.keyRequest_busy busy) level
  · exact exec_refused accepted rfl ((spanCommand_be16 fits).trans (if_pos out))

/-! ## SET STATION -/

/-- A signed field carries an integer that is not negative as the plain field does. -/
theorem be16s_toNat {i : Int} (range : 0 ≤ i ∧ i < 65536) : be16s i = be16 i.toNat := by
  rw [be16s, ← Int.toNat_of_nonneg range.1, BitVec.ofInt_natCast, BitVec.toNat_ofNat, Int.toNat_natCast,
    Nat.mod_eq_of_lt ((Int.toNat_lt range.1).2 range.2)]

/-- The field reads as that integer. -/
theorem u16_be16s_append {i : Int} (range : 0 ≤ i ∧ i < 65536) (rest : List Byte) : (u16 (be16s i ++ rest) 0 : Int) = i := by
  rw [be16s_toNat range, u16_be16_append _ _ ((Int.toNat_lt range.1).2 range.2), Int.toNat_of_nonneg range.1]

/-- The configuration that a SET STATION body carries is the one sent. -/
theorem stationOf_setStationBody {c : Station} (empty : 0 ≤ c.emptyThreshold ∧ c.emptyThreshold < 65536)
    (capacity : 0 ≤ c.capacity ∧ c.capacity < 65536) (band : 0 ≤ c.band ∧ c.band < 65536) (time : c.time < 65536)
    (timeout : c.captureTimeout < 65536) : stationOf (setStationBody c) = c := by
  change Station.mk (u16 (be16s c.emptyThreshold ++ (be16 c.capacity.toNat ++ (be16s c.band ++ (be16 c.time
    ++ be16 c.captureTimeout)))) 0) (u16 (be16 c.capacity.toNat ++ (be16s c.band ++ (be16 c.time ++ be16 c.captureTimeout))) 0)
    (u16 (be16s c.band ++ (be16 c.time ++ be16 c.captureTimeout)) 0) (u16 (be16 c.time ++ be16 c.captureTimeout) 0)
    (u16 (be16 c.captureTimeout) 0) = c
  rw [← be16s_toNat capacity, u16_be16s_append empty, u16_be16s_append capacity, u16_be16s_append band,
    u16_be16_append _ _ time, u16_be16 _ timeout]

theorem stationInRange_iff (c : Station) : stationInRange c = true ↔ c.Fits := by
  simp only [stationInRange, Bool.and_eq_true, decide_eq_true_eq]
  exact ⟨fun ⟨⟨⟨⟨⟨empty, capacity⟩, band⟩, time⟩, timeout⟩, below⟩ => ⟨⟨empty.1, empty.2, below⟩, capacity, band, time, timeout⟩,
    fun ⟨empty, capacity, band, time, timeout⟩ => ⟨⟨⟨⟨⟨⟨empty.1, empty.2.1⟩, capacity⟩, band⟩, time⟩, timeout⟩, empty.2.2⟩⟩

/-- SET STATION, over a body that carries a configuration. -/
theorem setStationCommand_of {s : State} {c : Station} (carried : stationOf (setStationBody c) = c) :
    setStationCommand (setStationBody c) s =
      if stationInRange c then .done (s.setScale { s.scale with station := c }) [] else .refuse s .badValue := by
  change (if stationInRange (stationOf (setStationBody c)) then Reply.done (s.setScale { s.scale with
    station := stationOf (setStationBody c) }) [] else _) = _
  rw [carried]

/-- The figures of a permitted configuration are carried whole. -/
theorem Station.Fits.carried {c : Station} (fits : c.Fits) : stationOf (setStationBody c) = c :=
  stationOf_setStationBody ⟨le_trans (by decide) fits.emptyThreshold.1, fits.emptyThreshold.2.1.trans_lt (by decide)⟩
    ⟨le_trans (by decide) fits.capacity.1, fits.capacity.2.trans_lt (by decide)⟩
    ⟨le_trans (by decide) fits.band.1, fits.band.2.trans_lt (by decide)⟩ (fits.time.2.trans_lt (by decide))
    (fits.captureTimeout.2.trans_lt (by decide))

/-- A natural number below 65536 as an integer. -/
theorem natCast_range {n : Nat} (fits : n < 65536) : (0 : Int) ≤ n ∧ (n : Int) < 65536 := ⟨Int.natCast_nonneg n, Int.ofNat_lt.2 fits⟩

/-! ## ARM -/

theorem lotInRange_iff (lot : Option (List Byte)) : lotInRange lot = true ↔
    ∀ l, lot = some l → 1 ≤ l.length ∧ l.length ≤ 12 ∧ ∀ b ∈ l, 0x20 ≤ b.toNat ∧ b.toNat ≤ 0x7E := by
  cases lot <;> simp [lotInRange, and_assoc]

theorem plyInRange_iff (ply : Option Nat) : plyInRange ply = true ↔ ∀ p, ply = some p → 1 ≤ p ∧ p ≤ 99 := by
  cases ply <;> simp [plyInRange]

/-- The arming records that ARM takes for n cavities, as its tests find them (R66). -/
theorem Arming.fits_iff (a : Arming) (n : Nat) : a.Fits n ↔
    ¬(a.cavity < 1 ∨ n < a.cavity) ∧ (lotInRange a.lot && plyInRange a.ply) = true := by
  rw [Bool.and_eq_true, lotInRange_iff, plyInRange_iff, not_or, Nat.not_lt, Nat.not_lt]
  exact ⟨fun ⟨cavity, lot, ply⟩ => ⟨cavity, lot, ply⟩, fun ⟨cavity, lot, ply⟩ => ⟨cavity, lot, ply⟩⟩

theorem Arming.Fits.carried {a : Arming} {n : Nat} (fits : a.Fits n) (few : n ≤ 4) : a.Carried where
  cavity := (fits.cavity.2.trans few).trans_lt (by decide)
  lot l h := ⟨(fits.lot l h).1, (fits.lot l h).2.1.trans_lt (by decide)⟩
  ply p h := (fits.ply p h).2.trans_lt (by decide)

/-- The lot length that an ARM body declares. -/
theorem lotLengthOf_armBody {a : Arming} (carried : a.Carried) : lotLengthOf (armBody a) = (a.lot.getD []).length := by
  refine (toNat_byte _).trans (Nat.mod_eq_of_lt ?_)
  cases h : a.lot with
  | none => decide
  | some l => exact (carried.lot l h).2

/-- The bytes that follow the two that lead an ARM body. -/
theorem length_armBody (a : Arming) : (armBody a).length = (if a.ply.isSome then 3 else 2) + (a.lot.getD []).length := by
  obtain ⟨cavity, lot, ply⟩ := a
  cases ply with
  | none => rw [armBody, List.append_nil]; exact Nat.add_comm _ 2
  | some p =>
    change (lot.getD [] ++ [byte p]).length + 2 = _
    rw [List.length_append]
    exact Nat.add_comm (lot.getD []).length 3

/-- The record that an ARM body carries is the one sent. -/
theorem armingOf_armBody {a : Arming} (carried : a.Carried) : armingOf (armBody a) = a := by
  have length := lotLengthOf_armBody carried
  have given : plyGiven (armBody a) = a.ply.isSome := by
    rw [plyGiven, length_armBody, length]
    cases a.ply with
    | none => exact decide_eq_false fun same => absurd (Nat.add_right_cancel same) (by decide)
    | some _ => exact decide_eq_true rfl
  have cavity : u8 (armBody a) 0 = a.cavity := (toNat_byte _).trans (Nat.mod_eq_of_lt carried.cavity)
  have lot : (if (a.lot.getD []).length = 0 then none else some (((armBody a).drop 2).take (a.lot.getD []).length)) = a.lot := by
    change (if _ then _ else some (List.take _ (a.lot.getD [] ++ _))) = _
    rw [List.take_left]
    cases h : a.lot with
    | none => rfl
    | some l => exact if_neg (Nat.ne_of_gt (carried.lot l h).1)
  have ply : (if a.ply.isSome = true then some (u8 (armBody a) (2 + (a.lot.getD []).length)) else none) = a.ply := by
    cases h : a.ply with
    | none => rfl
    | some p =>
      have last : u8 (armBody a) (2 + (a.lot.getD []).length) = u8 [byte p] 0 := by
        rw [Nat.add_comm, ← u8_append_right (a.lot.getD []) [byte p] 0, armBody, h]
        rfl
      rw [last, u8_cons_zero, toNat_byte, Nat.mod_eq_of_lt (carried.ply p h)]
      rfl
  rw [armingOf, given, length, cavity, lot, ply]

theorem armLengthAgrees_armBody {a : Arming} (carried : a.Carried) : armLengthAgrees (armBody a) = true := by
  rw [armLengthAgrees, lotLengthOf_armBody carried, length_armBody]
  cases a.ply
  · exact decide_eq_true ⟨Nat.le_add_right 2 _, .inl rfl⟩
  · exact decide_eq_true ⟨Nat.le_add_right_of_le (Nat.le_succ 2), .inr rfl⟩

/-- ARM with a tool mounted, over a body that carries a record. -/
theorem armCommand_mounted {s : State} {a : Arming} (carried : a.Carried) {t : Tool} (mounted : s.mountedTool = some t) :
    armCommand (armBody a) s =
      if a.cavity < 1 ∨ t.cavityCount < a.cavity then .refuse s .badValue
      else if lotInRange a.lot && plyInRange a.ply then .done (s.setScale { s.scale with arming := some a }) []
      else .refuse s .badValue := by
  rw [armCommand, armLengthAgrees_armBody carried, Reply.ofLength_true, armingOf_armBody carried, mounted]

/-- ARM with no tool mounted. -/
theorem armCommand_unmounted {s : State} {a : Arming} (carried : a.Carried) (unmounted : s.mountedTool = none) :
    armCommand (armBody a) s = .refuse s .wrongState := by
  rw [armCommand, armLengthAgrees_armBody carried, Reply.ofLength_true, unmounted]

/-- Settles O31: each record by the tests of its command. -/
theorem stationAndArmingAreStored : Obligations.StationAndArmingAreStored := by
  intro s guard accepted
  refine ⟨fun c fits => ?_, fun a b c d e ha hb hc hd he misfits => ?_, fun body long => ?_, fun t a mounted few fits => ?_,
    fun body wrong => ?_, fun a carried => ⟨fun unmounted => ?_, fun t mounted misfits => ?_⟩⟩
  · exact exec_answered accepted rfl ((setStationCommand_of fits.carried).trans (if_pos ((stationInRange_iff c).2 fits)))
  · exact exec_refused accepted rfl ((setStationCommand_of (stationOf_setStationBody (natCast_range ha) (natCast_range hb) (natCast_range hc) hd he)).trans
      (if_neg (mt (stationInRange_iff _).1 misfits)))
  · exact exec_badLength accepted rfl rfl (beq_eq_false_iff_ne.2 long)
  · obtain ⟨cavity, texts⟩ := (a.fits_iff _).1 fits
    exact exec_answered accepted rfl ((armCommand_mounted (s := s.hunt) (fits.carried few) mounted).trans
      ((if_neg cavity).trans (if_pos texts)))
  · exact exec_badLength accepted rfl rfl (decide_eq_false wrong)
  · exact exec_refused accepted rfl (armCommand_unmounted (s := s.hunt) carried unmounted)
  · refine exec_refused accepted rfl ((armCommand_mounted (s := s.hunt) carried mounted).trans ?_)
    split
    · rfl
    next cavity => exact if_neg fun texts => misfits ((a.fits_iff _).2 ⟨cavity, texts⟩)

end Sys2Proof.Machine
end

section
/-! PROOF. Samples of a zone (R24 to R34): what one leaves in the part, by what it does to the zone. -/

namespace Sys2Proof.Machine

/-! ## An event of one zone -/

section
variable (s : State) (z : ZoneIx) (f : ZoneStep → ZoneStep)

/-- Notices of a zone, pushed in their order (R35, R156). -/
def NoticeQueue.pushZone (q : NoticeQueue) (time : Nat) (z : ZoneIx) (posts : List (NoticeKind × Option Int)) : NoticeQueue :=
  posts.foldl (fun q p => q.push ⟨p.1, time, .zone z.number, p.2⟩) q

theorem State.postZone_eq (posts : List (NoticeKind × Option Int)) :
    s.postZone z posts = s.setNotices (s.notices.pushZone s.clocks.part z posts) := by
  induction posts generalizing s with
  | nil => rfl
  | cons p posts ih => exact ih (s.post p.1 (.zone z.number) p.2)

/-- A zone event writes zone, heater and notices, and an evaluation may follow (R33). -/
theorem State.applyZone_eq {v : ZoneStep} (step : f (s.zoneStep z) = v) : s.applyZone z f =
    (((s.setZones (s.zones.set z v.zone)).setHeaters (s.heaters.set z v.heater)).setNotices
      (s.notices.pushZone s.clocks.part z v.posts)).setCycle (s.applyZone z f).cycle := by
  subst step
  obtain ⟨e, _⟩ | ⟨e, _⟩ := s.applyZone_cases z f <;> rw [e, State.postZone_eq]
  · rfl
  · rfl

theorem settled_changes_iff {x y : ZoneState} : ((x == .settled) != (y == .settled)) = true ↔ (x = .settled ↔ y ≠ .settled) := by
  rw [bne_iff_ne, ne_eq, Bool.eq_iff_iff, beq_iff_eq, beq_iff_eq, not_iff, not_iff_comm]
  exact Iff.comm

variable {s z f} in
/-- An arrival at SETTLED or a departure from it is evaluated (R33, R95). -/
theorem State.applyZone_moves (used : s.usesZone z = true)
    (changed : s.zones[z].state = .settled ↔ (f (s.zoneStep z)).zone.state ≠ .settled) : Reevaluated s (s.applyZone z f) := by
  rw [State.applyZone, if_pos (Bool.and_eq_true_iff.2 ⟨used, settled_changes_iff.2 changed⟩), State.postZone_eq]
  exact State.evaluate_reevaluated _

variable {s z f} in
/-- Any other event of a zone leaves the cycle. -/
theorem State.applyZone_stays (same : ¬(s.usesZone z = true ∧
    (s.zones[z].state = .settled ↔ (f (s.zoneStep z)).zone.state ≠ .settled))) : (s.applyZone z f).cycle = s.cycle := by
  rw [State.applyZone, if_neg fun moves => same ((Bool.and_eq_true_iff.1 moves).imp_right settled_changes_iff.1),
    State.postZone_eq]
  rfl

end

/-! ## The temperature of a sample -/

theorem clipTemp_eq {x : Int} (low : -500 ≤ x) (high : x ≤ 4000) : clipTemp x = x := by
  exact (congrArg (max _) (min_eq_right high)).trans (max_eq_right low)

theorem Zone.plausibleTemp_within {z : Zone} {x : Int} (low : -500 ≤ x) (high : x ≤ 4000) (above : z.config.lowLimit ≤ x)
    (below : x ≤ z.config.highLimit) : z.plausibleTemp (.celsius x) = some x := by
  rw [Zone.plausibleTemp, clipTemp_eq low high, if_pos ⟨above, below⟩]

theorem Zone.plausibleTemp_beyond {z : Zone} {reading : Reading} (beyond : reading = .openCircuit ∨ ∃ x,
    reading = .celsius x ∧ -500 ≤ x ∧ x ≤ 4000 ∧ (x < z.config.lowLimit ∨ z.config.highLimit < x)) :
    z.plausibleTemp reading = none := by
  obtain rfl | ⟨x, rfl, low, high, out⟩ := beyond
  · rfl
  · rw [Zone.plausibleTemp, clipTemp_eq low high, if_neg]
    exact fun within => out.elim within.1.not_gt within.2.not_gt

section
variable {s : State} {z : ZoneIx} {r : Reading} {v : ZoneStep} {u : ZoneStep}

theorem ZoneStep.sample_some {x : Int} (plausible : u.zone.plausibleTemp r = some x) : u.sample r = u.plausibleSample x := by
  rw [ZoneStep.sample, plausible]

theorem ZoneStep.sample_none (implausible : u.zone.plausibleTemp r = none) : u.sample r = u.implausibleSample := by
  rw [ZoneStep.sample, implausible]

/-! ## What a sample leaves -/

theorem exec_zoneSample (free : s.inputs.resetPin = false) : exec (.zoneSample z r) s = .next (s.sampleZone z r) :=
  congrArg _ (s.unlessHeld_released _ free)

/-- A row that names what a sample does is that sample (log 1). -/
theorem unlessHeld_sample {q : Prop} [Decidable q] (free : s.inputs.resetPin = false) (done : q) :
    s.unlessHeld (if q then s.sampleZone z r else s) = s.sampleZone z r := by
  rw [if_pos done, s.unlessHeld_released _ free]

section
variable (step : (s.zoneStep z).sample r = v)
include step

theorem State.sampleZone_eq : s.sampleZone z r = ((((s.setTimers (s.zoneMoment z).timers).setZones (s.zones.set z v.zone)).setHeaters
    (s.heaters.set z v.heater)).setNotices (s.notices.pushZone s.clocks.part z v.posts)).setCycle (s.sampleZone z r).cycle :=
  (s.zoneMoment z).applyZone_eq z _ step

theorem State.sampleZone_zones : (s.sampleZone z r).zones = s.zones.set z v.zone := by
  rw [State.sampleZone_eq step]
  rfl

theorem State.sampleZone_heaters : (s.sampleZone z r).heaters = s.heaters.set z v.heater := by
  rw [State.sampleZone_eq step]
  rfl

theorem State.sampleZone_zone : (s.sampleZone z r).zones[z] = v.zone := by
  rw [State.sampleZone_zones step]
  exact Vector.getElem_set_self _

theorem State.sampleZone_zone_of_ne {y : ZoneIx} (other : y ≠ z) : (s.sampleZone z r).zones[y] = s.zones[y] := by
  rw [State.sampleZone_zones step]
  exact Vector.getElem_set_ne _ _ (fun same => other (Fin.ext same.symm))

theorem State.sampleZone_heater : (s.sampleZone z r).heaters[z] = v.heater := by
  rw [State.sampleZone_heaters step]
  exact Vector.getElem_set_self _

theorem State.sampleZone_heater_of_ne {y : ZoneIx} (other : y ≠ z) : (s.sampleZone z r).heaters[y] = s.heaters[y] := by
  rw [State.sampleZone_heaters step]
  exact Vector.getElem_set_ne _ _ (fun same => other (Fin.ext same.symm))

theorem State.sampleZone_notices : (s.sampleZone z r).notices = s.notices.pushZone s.clocks.part z v.posts := by
  rw [State.sampleZone_eq step]
  rfl

/-- A sample that posts nothing, and neither brings its zone to SETTLED nor takes it from there, writes to the zone alone. -/
theorem State.sampleZone_quiet (heater : v.heater = s.heaters[z]) (posts : v.posts = [])
    (same : s.zones[z].state = .settled ↔ v.zone.state = .settled) : (s.sampleZone z r).zones = s.zones.set z v.zone ∧
      (s.sampleZone z r).heaters = s.heaters ∧ (s.sampleZone z r).notices = s.notices ∧ (s.sampleZone z r).cycle = s.cycle := by
  refine ⟨State.sampleZone_zones step, ?_, ?_, State.applyZone_stays (s := s.zoneMoment z) fun moved => ?_⟩
  · rw [State.sampleZone_heaters step, heater]
    exact Vector.set_getElem_self _
  · rw [State.sampleZone_notices step, posts]
    rfl
  · exact not_iff_self (moved.2.symm.trans (step ▸ same))

end

/-! ## Implausible samples -/

theorem ZoneStep.implausibleSample_off (off : u.zone.state = .off) : u.implausibleSample =
    { u with zone := { u.zone with implausible := min 2 (u.zone.implausible + 1), plausible := 0 } } := by
  rw [ZoneStep.implausibleSample, off]

theorem ZoneStep.implausibleSample_running (running : u.zone.state = .ramp ∨ u.zone.state = .settling ∨ u.zone.state = .settled) :
    u.implausibleSample = if min 2 (u.zone.implausible + 1) = 2
      then ZoneStep.enterFault { u with zone := { u.zone with implausible := min 2 (u.zone.implausible + 1), plausible := 0 } }
      else { u with zone := { u.zone with implausible := min 2 (u.zone.implausible + 1), plausible := 0 } } := by
  obtain ramp | settling | settled := running
  · rw [ZoneStep.implausibleSample, ramp]
  · rw [ZoneStep.implausibleSample, settling]
  · rw [ZoneStep.implausibleSample, settled]

theorem ZoneStep.implausibleSample_fault (fault : u.zone.state = .fault) : u.implausibleSample =
    { u with zone := { u.zone with implausible := min 2 (u.zone.implausible + 1), plausible := 0
                                   faultAge := min 600000 (u.zone.faultAge + 250) } } := by
  rw [ZoneStep.implausibleSample, fault]
  rfl

theorem ZoneState.running_of_ne {x : ZoneState} (off : x ≠ .off) (fault : x ≠ .fault) :
    x = .ramp ∨ x = .settling ∨ x = .settled := by
  cases x
  · exact absurd rfl off
  · exact .inl rfl
  · exact .inr (.inl rfl)
  · exact .inr (.inr rfl)
  · exact absurd rfl fault

theorem ZoneState.ne_fault_of_running {x : ZoneState} (running : x = .ramp ∨ x = .settling ∨ x = .settled) : x ≠ .fault := by
  obtain rfl | rfl | rfl := running <;> decide

/-- In OFF, and outside it at the first of a run, an implausible sample is counted and no more. -/
theorem ZoneStep.implausibleSample_counted (first : u.zone.state = .off ∨ u.zone.state ≠ .fault ∧ u.zone.implausible = 0) :
    u.implausibleSample = { u with zone := { u.zone with implausible := min 2 (u.zone.implausible + 1), plausible := 0 } } := by
  by_cases off : u.zone.state = .off
  · exact ZoneStep.implausibleSample_off off
  · obtain ⟨fault, zero⟩ := first.resolve_left off
    rw [ZoneStep.implausibleSample_running (ZoneState.running_of_ne off fault), zero]
    rfl

/-- The second of a run is the entry to FAULT (R31, R45). -/
theorem ZoneStep.implausibleSample_second (running : u.zone.state = .ramp ∨ u.zone.state = .settling ∨ u.zone.state = .settled)
    (once : u.zone.implausible = 1) : u.implausibleSample =
      ⟨{ u.zone with state := .fault, implausible := 2, settleTimer := 0, plausible := 0, faultAge := 0, staleKept := false },
        { u.heater with heldDuty := u.heater.lastGrant },
        u.posts ++ [(.zoneFault, if u.zone.sampled then some u.zone.temp else none)]⟩ := by
  rw [ZoneStep.implausibleSample_running running, once]
  rfl

end

theorem NoticeQueue.push_list {q : NoticeQueue} (room : q.list.length < 16) (n : Notice) : (q.push n).list = q.list ++ [n] := by
  obtain ⟨_, pushed⟩ | ⟨full, _⟩ := q.push_cases n
  · rw [pushed]
  · exact absurd room full.not_gt

/-- Settles O24, by the zone's state and its implausible run. -/
theorem implausibleSamplesLeadToFault : Obligations.ImplausibleSamplesLeadToFault := by
  intro s z reading free beyond
  have step : (s.zoneStep z).sample reading = (s.zoneStep z).implausibleSample :=
    ZoneStep.sample_none (Zone.plausibleTemp_beyond beyond)
  refine ⟨fun first => ⟨_, exec_zoneSample free, ?_⟩, fun running once => ?_, fun fault => ⟨_, exec_zoneSample free, ?_⟩⟩
  · exact State.sampleZone_quiet (step.trans (ZoneStep.implausibleSample_counted first)) rfl rfl Iff.rfl
  · have entry := step.trans (ZoneStep.implausibleSample_second running once)
    refine ⟨s.sampleZone z reading, congrArg Host.Outcome.next (unlessHeld_sample free ⟨ZoneState.ne_fault_of_running running, congrArg (·.zone.state) entry⟩),
      exec_zoneSample free, State.sampleZone_zones entry, State.sampleZone_heaters entry, fun room => ?_⟩
    rw [State.sampleZone_notices entry]
    exact NoticeQueue.push_list room _
  · exact State.sampleZone_quiet (step.trans (ZoneStep.implausibleSample_fault fault)) rfl rfl Iff.rfl

/-! ## HOT judged on a fresh temperature (R34, R43) -/

theorem ZoneStep.judgeHot_idle {u : ZoneStep} (idle : u.zone.state = .off ∨ u.zone.stale) : u.judgeHot = u := if_pos idle

theorem ZoneStep.judgeHot_cools {u : ZoneStep} (judged : ¬(u.zone.state = .off ∨ u.zone.stale)) (cool : ¬u.zone.tooHot) :
    u.judgeHot = { u with zone := { u.zone with hot := false } } := (if_neg judged).trans (if_neg cool)

theorem ZoneStep.judgeHot_kept {u : ZoneStep} (judged : ¬(u.zone.state = .off ∨ u.zone.stale)) (hot : u.zone.tooHot)
    (before : u.zone.hot) : u.judgeHot = u := (if_neg judged).trans ((if_pos hot).trans (if_pos before))

/-- HOT rises: the output is cut, and the notice posted. -/
def ZoneStep.heated (u : ZoneStep) : ZoneStep :=
  ⟨{ u.zone with hot := true }, { u.heater with output := false, lastGrant := 0 }, u.posts ++ [(.zoneHot, some u.zone.temp)]⟩

theorem ZoneStep.judgeHot_heats {u : ZoneStep} (judged : ¬(u.zone.state = .off ∨ u.zone.stale)) (hot : u.zone.tooHot)
    (before : ¬u.zone.hot) : u.judgeHot = u.heated := (if_neg judged).trans ((if_pos hot).trans (if_neg before))

/-- HOT rises with its consequences, or the judgement changes it alone, to false if at all. -/
theorem ZoneStep.judgeHot_cases (u : ZoneStep) :
    u.judgeHot = u ∨ u.judgeHot = { u with zone := { u.zone with hot := false } }
      ∨ u.zone.hot = false ∧ u.judgeHot = u.heated := by
  by_cases idle : u.zone.state = .off ∨ u.zone.stale
  · exact .inl (ZoneStep.judgeHot_idle idle)
  · by_cases hot : u.zone.tooHot
    · by_cases before : u.zone.hot
      · exact .inl (ZoneStep.judgeHot_kept idle hot before)
      · exact .inr (.inr ⟨Bool.eq_false_iff.2 before, ZoneStep.judgeHot_heats idle hot before⟩)
    · exact .inr (.inl (ZoneStep.judgeHot_cools idle hot))

section
variable {u : ZoneStep} (on : u.zone.state ≠ .off) (fresh : u.zone.stale = false)
include on fresh

theorem ZoneStep.judged_of_fresh : ¬(u.zone.state = .off ∨ u.zone.stale) :=
  fun idle => idle.elim on (Bool.eq_false_iff.1 fresh)

theorem ZoneStep.judgeHot_rises (cool : u.zone.hot = false) (hot : u.zone.tooHot = true) : u.judgeHot = u.heated :=
  ZoneStep.judgeHot_heats (ZoneStep.judged_of_fresh on fresh) hot (Bool.eq_false_iff.1 cool)

theorem ZoneStep.judgeHot_stays (same : ¬(u.zone.hot = false ∧ u.zone.tooHot = true)) : u.judgeHot =
    { u with zone := { u.zone with hot := u.zone.tooHot } } := by
  have judged := ZoneStep.judged_of_fresh on fresh
  cases hot : u.zone.tooHot
  · exact ZoneStep.judgeHot_cools judged (Bool.eq_false_iff.1 hot)
  · have before : u.zone.hot = true := Bool.of_not_eq_false fun cool => same ⟨cool, hot⟩
    rw [← before]
    exact ZoneStep.judgeHot_kept judged hot before

/-- What judging HOT leaves of the zone, in any case. -/
theorem ZoneStep.judgeHot_zone : u.judgeHot.zone = { u.zone with hot := u.zone.tooHot } := by
  by_cases rises : u.zone.hot = false ∧ u.zone.tooHot = true
  · rw [ZoneStep.judgeHot_rises on fresh rises.1 rises.2, rises.2]
    rfl
  · rw [ZoneStep.judgeHot_stays on fresh rises]

end

/-! ## Recovery from FAULT -/

/-- What judging HOT leaves of the drive's figures. -/
def Heater.uncut (h : Heater) := (h.integrator, h.heldDuty, h.lastRequest)

theorem ZoneStep.judgeHot_left (u : ZoneStep) : u.judgeHot.heater.uncut = u.heater.uncut ∧ ∃ l, l.length ≤ 1 ∧
    u.judgeHot.posts = u.posts ++ l := by
  obtain same | same | ⟨_, same⟩ := u.judgeHot_cases <;> rw [same]
  · exact ⟨rfl, [], Nat.zero_le 1, (List.append_nil _).symm⟩
  · exact ⟨rfl, [], Nat.zero_le 1, (List.append_nil _).symm⟩
  · exact ⟨rfl, [_], Nat.le_refl 1, rfl⟩

theorem ZoneStep.recover_zone (u : ZoneStep) (x : Int) : (u.recover x).zone = { u.zone with
    state := .ramp, temp := x, sampled := true, staleKept := false, implausible := 0, plausible := 0, faultAge := 0,
    settleTimer := 0, hot := decide (u.zone.setpoint + u.zone.config.hotMargin < x) } :=
  ZoneStep.judgeHot_zone (u := ⟨{ u.zone.takeTemp x with state := .ramp, settleTimer := 0, plausible := 0, faultAge := 0 },
    { u.heater with integrator := 0 }, u.posts⟩) (show ZoneState.ramp ≠ .off by decide) rfl

theorem ZoneStep.recover_cases (u : ZoneStep) (x : Int) :
    (u.recover x).heater.uncut = (0, u.heater.heldDuty, u.heater.lastRequest) ∧
      ∃ l, l.length ≤ 1 ∧ (u.recover x).posts = u.posts ++ l ++ [(.zoneRecovered, some x)] := by
  obtain ⟨left, l, short, posts⟩ := ZoneStep.judgeHot_left ⟨{ u.zone.takeTemp x with
    state := .ramp, settleTimer := 0, plausible := 0, faultAge := 0 }, { u.heater with integrator := 0 }, u.posts⟩
  exact ⟨left, l, short, congrArg (· ++ _) posts⟩

theorem NoticeQueue.pushZone_list (time : Nat) (z : ZoneIx) {posts : List (NoticeKind × Option Int)} {q : NoticeQueue}
    (room : q.list.length + posts.length ≤ 16) :
    (q.pushZone time z posts).list = q.list ++ posts.map fun p => ⟨p.1, time, .zone z.number, p.2⟩ := by
  induction posts generalizing q with
  | nil => exact (List.append_nil _).symm
  | cons p posts ih =>
    have pushed := q.push_list (Nat.lt_of_lt_of_le (Nat.lt_add_of_pos_right (Nat.succ_pos _)) room) ⟨p.1, time, .zone z.number, p.2⟩
    refine (ih ?_).trans (by rw [pushed, List.append_assoc]; rfl)
    rw [pushed, List.length_append, Nat.add_assoc, Nat.add_comm _ posts.length]
    exact room

/-- The notice of a recovery finds a place where two are free. -/
theorem ZoneStep.recovered_mem {q : NoticeQueue} (room : q.list.length < 15) (time : Nat) (z : ZoneIx) {u : ZoneStep} (x : Int)
    (none : u.posts = []) : ⟨.zoneRecovered, time, .zone z.number, some x⟩ ∈ (q.pushZone time z (u.recover x).posts).list := by
  obtain ⟨_, l, short, posts⟩ := u.recover_cases x
  rw [posts, none, List.nil_append, NoticeQueue.pushZone_list]
  · exact List.mem_append_right _ (List.mem_map_of_mem (List.mem_append_right _ (List.mem_singleton_self _)))
  · rw [List.length_append]
    exact Nat.add_le_add (Nat.le_of_lt_succ room) (Nat.succ_le_succ short)

theorem ZoneStep.plausibleSample_fault {u : ZoneStep} (fault : u.zone.state = .fault) (x : Int) :
    u.plausibleSample x = if 8 ≤ u.zone.plausible + 1 then u.recover x
      else { u with zone := { u.zone with
        implausible := 0, plausible := u.zone.plausible + 1, faultAge := min 600000 (u.zone.faultAge + 250) } } := by
  rw [ZoneStep.plausibleSample, fault]
  rfl

/-- Settles O25: before the eighth sample the zone alone is written; the eighth is `ZoneStep.recover`. -/
theorem eightPlausibleSamplesRecover : Obligations.EightPlausibleSamplesRecover := by
  intro s z x free low high fault above below
  have step := (ZoneStep.sample_some (u := s.zoneStep z) (Zone.plausibleTemp_within low high above below)).trans
    (ZoneStep.plausibleSample_fault fault x)
  refine ⟨fun few => ⟨_, exec_zoneSample free, ?_⟩, fun seven => ?_⟩
  · exact State.sampleZone_quiet (step.trans (if_neg (Nat.not_le.2 (Nat.succ_lt_succ few)))) rfl rfl Iff.rfl
  · have recovery := step.trans (if_pos (Nat.succ_le_succ seven.ge))
    refine ⟨s.sampleZone z (.celsius x), congrArg Host.Outcome.next (unlessHeld_sample free ⟨fault, ?_⟩), exec_zoneSample free,
      (State.sampleZone_zones recovery).trans (congrArg (s.zones.set z ·) (ZoneStep.recover_zone _ x)),
      (congrArg Heater.integrator (State.sampleZone_heater recovery)).trans (congrArg (·.1) (ZoneStep.recover_cases _ x).1),
      (congrArg Heater.heldDuty (State.sampleZone_heater recovery)).trans (congrArg (·.2.1) (ZoneStep.recover_cases _ x).1),
      (congrArg Heater.lastRequest (State.sampleZone_heater recovery)).trans (congrArg (·.2.2) (ZoneStep.recover_cases _ x).1),
      fun room => ?_, fun y other => State.sampleZone_heater_of_ne recovery other⟩
    · rw [State.stateAfterSample, recovery, ZoneStep.recover_zone]
      exact (show ZoneState.ramp ≠ .fault by decide)
    · rw [State.sampleZone_notices recovery]
      exact ZoneStep.recovered_mem room _ z x rfl

/-! ## Plausible samples outside FAULT -/

/-- The zone after a plausible sample outside FAULT, before HOT is judged. -/
def Zone.afterSample (z : Zone) (x : Int) : Zone := { (z.takeTemp x).bandSample with plausible := 0 }

section
variable {z : Zone} {x : Int}

theorem Zone.bandSample_eq (z : Zone) : z.bandSample =
    { z with state := z.bandSample.state, settleTimer := z.bandSample.settleTimer } := by
  unfold Zone.bandSample
  cases z.state
  case ramp => cases z.inBand <;> rfl
  case settling =>
    cases z.outOfBand
    · dsimp only
      generalize Zone.timerReached _ = reached
      cases reached <;> rfl
    · rfl
  case settled => cases z.outOfBand <;> rfl
  all_goals rfl

theorem Zone.afterSample_eq : z.afterSample x = { z with temp := x, sampled := true, staleKept := false, implausible := 0
                                                         plausible := 0, state := (z.afterSample x).state
                                                         settleTimer := (z.afterSample x).settleTimer } :=
  congrArg (fun b : Zone => { b with plausible := 0 }) (z.takeTemp x).bandSample_eq

theorem ite_decide {α : Type} {q : Prop} [Decidable q] (a b : α) : (if decide q = true then a else b) = if q then a else b :=
  if_congr decide_eq_true_iff rfl rfl

/-- State and settle timer, which a sample in band or out of it moves. -/
def Zone.settlement (z : Zone) : ZoneState × Nat := (z.state, z.settleTimer)

/-- What a plausible sample makes of state and settle timer, by the state it finds (R28 to R30). -/
theorem Zone.afterSample_settlement {z : Zone} (run : z.state ≠ .fault) (x : Int) : (z.afterSample x).settlement =
    match z.state with
    | .off => (.off, z.settleTimer)
    | .ramp => if |z.setpoint - x| ≤ z.band then (if z.settle = 0 then (.settled, 0) else (.settling, 0))
      else (.ramp, z.settleTimer)
    | .settling => if z.band + z.config.exitHysteresis < |z.setpoint - x| then (.ramp, 0)
      else (if z.settle * 1000 ≤ z.settleTimer + 250 then .settled else .settling, z.settleTimer + 250)
    | .settled => if z.band + z.config.exitHysteresis < |z.setpoint - x| then (.ramp, 0) else (.settled, z.settleTimer)
    | .fault => (.fault, 0) := by
  obtain ⟨config, setpoint, band, settle, temp, sampled, kept, state, hot, timer, implausible, plausible, age⟩ := z
  cases state
  case off => rfl
  case fault => exact absurd rfl run
  case ramp =>
    refine (apply_ite Zone.settlement _ _ _).trans ((ite_decide _ _).trans ?_)
    refine ite_congr rfl (fun inside => ?_) fun _ => rfl
    exact (congrArg (·, 0) (if_pos (decide_eq_true inside))).trans (apply_ite (·, 0) _ _ _)
  case settling =>
    refine (apply_ite Zone.settlement _ _ _).trans ((ite_decide _ _).trans (congrArg _ ?_))
    exact (apply_ite Zone.settlement _ _ _).trans ((ite_decide _ _).trans (apply_ite (·, timer + 250) _ _ _).symm)
  case settled => exact (apply_ite Zone.settlement _ _ _).trans (ite_decide _ _)

end

/-- Outside FAULT a plausible sample is taken, and then HOT is judged. -/
theorem ZoneStep.plausibleSample_judged {u : ZoneStep} (run : u.zone.state ≠ .fault) (x : Int) :
    u.plausibleSample x = ZoneStep.judgeHot { u with zone := u.zone.afterSample x } := by
  obtain ⟨⟨config, setpoint, band, settle, temp, sampled, kept, state, hot, timer, implausible, plausible, age⟩, heater, posts⟩ := u
  cases state
  case off => exact (ZoneStep.judgeHot_idle (.inl rfl)).symm
  case fault => exact absurd rfl run
  all_goals rfl

/-- Neither OFF nor FAULT. -/
def ZoneState.Runs (x : ZoneState) : Prop := x ≠ .off ∧ x ≠ .fault

theorem ZoneState.runs_ramp : ZoneState.Runs .ramp := ⟨by decide, by decide⟩

theorem ZoneState.runs_settling : ZoneState.Runs .settling := ⟨by decide, by decide⟩

theorem ZoneState.runs_settled : ZoneState.Runs .settled := ⟨by decide, by decide⟩

/-- Such a sample leads neither into FAULT nor into OFF. -/
theorem Zone.afterSample_runs {z : Zone} (runs : z.state.Runs) (x : Int) : (z.afterSample x).state.Runs := by
  change (z.afterSample x).settlement.1.Runs
  rw [Zone.afterSample_settlement runs.2 x]
  obtain ⟨off, fault⟩ := runs
  cases state : z.state
  case off => exact absurd state off
  case fault => exact absurd state fault
  case ramp =>
    exact iteInduction (motive := fun p : ZoneState × Nat => p.1.Runs)
      (fun _ => iteInduction (motive := fun p : ZoneState × Nat => p.1.Runs) (fun _ => ZoneState.runs_settled)
        fun _ => ZoneState.runs_settling) fun _ => ZoneState.runs_ramp
  case settling =>
    exact iteInduction (motive := fun p : ZoneState × Nat => p.1.Runs) (fun _ => ZoneState.runs_ramp)
      fun _ => iteInduction (motive := ZoneState.Runs) (fun _ => ZoneState.runs_settled) fun _ => ZoneState.runs_settling
  case settled =>
    exact iteInduction (motive := fun p : ZoneState × Nat => p.1.Runs) (fun _ => ZoneState.runs_ramp)
      fun _ => ZoneState.runs_settled

theorem Zone.afterSample_off {z : Zone} (off : z.state = .off) (x : Int) : (z.afterSample x).state = .off := by
  cases z
  cases off
  rfl

theorem Zone.afterSample_fresh {z : Zone} (run : z.state ≠ .fault) (x : Int) : (z.afterSample x).stale = false := by
  have after : (z.afterSample x).state ≠ .fault := by
    by_cases off : z.state = .off
    · rw [Zone.afterSample_off off]
      decide
    · exact (Zone.afterSample_runs ⟨off, run⟩ x).2
  rw [Zone.afterSample_eq]
  exact congrArg (fun b => b || false || false) (beq_eq_false_iff_ne.2 after)

/-- What a plausible sample outside FAULT makes of a zone. -/
def ZoneStep.taken (u : ZoneStep) (x : Int) : ZoneStep := ZoneStep.judgeHot { u with zone := u.zone.afterSample x }

section
variable {u : ZoneStep} {x : Int}

theorem ZoneStep.taken_zone (run : u.zone.state ≠ .fault) : (u.taken x).zone = { u.zone with
    temp := x, sampled := true, staleKept := false, implausible := 0, plausible := 0
    state := (u.zone.afterSample x).state, settleTimer := (u.zone.afterSample x).settleTimer
    hot := if u.zone.state = .off then u.zone.hot else decide (u.zone.setpoint + u.zone.config.hotMargin < x) } := by
  have same := Zone.afterSample_eq (z := u.zone) (x := x)
  rw [ZoneStep.taken]
  split
  next off =>
    rw [ZoneStep.judgeHot_idle (.inl (Zone.afterSample_off off x))]
    exact same
  next on =>
    rw [ZoneStep.judgeHot_zone (Zone.afterSample_runs ⟨on, run⟩ x).1 (Zone.afterSample_fresh run x), same]
    rfl

theorem Zone.afterSample_hot {z : Zone} : (z.afterSample x).hot = z.hot := (congrArg Zone.hot Zone.afterSample_eq :)

theorem ZoneStep.taken_rises (cool : u.zone.hot = false) (hot : (u.taken x).zone.hot = true) :
    (u.taken x).heater = { u.heater with output := false, lastGrant := 0 }
      ∧ (u.taken x).posts = u.posts ++ [(.zoneHot, some x)] := by
  rw [ZoneStep.taken] at hot ⊢
  obtain same | same | ⟨_, same⟩ := ZoneStep.judgeHot_cases { u with zone := u.zone.afterSample x } <;> rw [same] at hot ⊢
  · exact absurd hot (Bool.eq_false_iff.1 (Zone.afterSample_hot.trans cool))
  · exact absurd hot Bool.false_ne_true
  · exact ⟨rfl, congrArg (fun z : Zone => u.posts ++ [(NoticeKind.zoneHot, some z.temp)]) Zone.afterSample_eq⟩

theorem ZoneStep.taken_stays (same : ¬(u.zone.hot = false ∧ (u.taken x).zone.hot = true)) :
    (u.taken x).heater = u.heater ∧ (u.taken x).posts = u.posts := by
  rw [ZoneStep.taken] at same ⊢
  obtain e | e | ⟨cool, e⟩ := ZoneStep.judgeHot_cases { u with zone := u.zone.afterSample x } <;> rw [e] at same ⊢
  · exact ⟨rfl, rfl⟩
  · exact ⟨rfl, rfl⟩
  · exact absurd ⟨Zone.afterSample_hot.symm.trans cool, rfl⟩ same

theorem ZoneStep.sample_taken (low : -500 ≤ x) (high : x ≤ 4000) (run : u.zone.state ≠ .fault)
    (above : u.zone.config.lowLimit ≤ x) (below : x ≤ u.zone.config.highLimit) : u.sample (.celsius x) = u.taken x :=
  (ZoneStep.sample_some (Zone.plausibleTemp_within low high above below)).trans (ZoneStep.plausibleSample_judged run x)

end

section
variable {s : State} {z : ZoneIx} {x : Int} {u : ZoneStep} (step : (s.zoneStep z).sample (.celsius x) = (s.zoneStep z).taken x)
include step

theorem State.sampled_zone (run : s.zones[z].state ≠ .fault) : (s.sampleZone z (.celsius x)).zones[z] = { s.zones[z] with
    temp := x, sampled := true, staleKept := false, implausible := 0, plausible := 0
    state := (s.zones[z].afterSample x).state, settleTimer := (s.zones[z].afterSample x).settleTimer
    hot := if s.zones[z].state = .off then s.zones[z].hot
      else decide (s.zones[z].setpoint + s.zones[z].config.hotMargin < x) } :=
  (State.sampleZone_zone step).trans (ZoneStep.taken_zone (u := s.zoneStep z) run)

end

theorem State.zoneMoment_timer (s : State) (z : ZoneIx) : (s.zoneMoment z).timers.zone[z] = 0 := by
  rw [State.zoneMoment]
  exact Vector.getElem_set_self _

theorem State.sampled_frame {s t : State} {v zs hs q c} (same : t =
    ((((s.setTimers v).setZones zs).setHeaters hs).setNotices q).setCycle c) :
    t.drive = s.drive ∧ t.scale = s.scale ∧ t.queue = s.queue ∧ t.ring = s.ring
      ∧ t.cure = s.cure ∧ t.ejector = s.ejector ∧ t.tools = s.tools ∧ t.rates = s.rates ∧ t.port = s.port
      ∧ t.clocks = s.clocks ∧ t.inputs = s.inputs ∧ t.pending = s.pending := by
  subst same
  exact ⟨rfl, rfl, rfl, rfl, rfl, rfl, rfl, rfl, rfl, rfl, rfl, rfl⟩

/-- What the evaluation of a zone's event comes to, by the cycle state. -/
theorem State.applyZone_reevaluated (s : State) (z : ZoneIx) (f : ZoneStep → ZoneStep) :
    if s.usesZone z = true ∧ s.cycle.state.waits = true ∧ (s.zones[z].state = .settled ↔ (f (s.zoneStep z)).zone.state ≠ .settled)
      then Reevaluated s (s.applyZone z f) else (s.applyZone z f).cycle = s.cycle := by
  refine iteInduction (motive := id) (fun ⟨used, _, changed⟩ => State.applyZone_moves used changed) fun idle => ?_
  by_cases moves : s.usesZone z = true ∧ (s.zones[z].state = .settled ↔ (f (s.zoneStep z)).zone.state ≠ .settled)
  · exact (State.applyZone_moves moves.1 moves.2).trans (if_neg fun waits => idle ⟨moves.1, waits, moves.2⟩)
  · exact State.applyZone_stays moves

/-- Settles O23: the sample is `ZoneStep.taken`. -/
theorem plausibleSampleJudgesTheZone : Obligations.PlausibleSampleJudgesTheZone := by
  intro s z x free low high run above below
  have step : (s.zoneStep z).sample (.celsius x) = (s.zoneStep z).taken x := ZoneStep.sample_taken low high run above below
  have zone := State.sampled_zone step run
  refine ⟨s.sampleZone z (.celsius x), exec_zoneSample free,
    (congrArg Zone.temp zone :), ?_, (congrArg Zone.implausible zone :), (congrArg Zone.plausible zone :),
    (congrArg Zone.config zone :), (congrArg Zone.setpoint zone :), (congrArg Zone.band zone :), (congrArg Zone.settle zone :),
    (congrArg Zone.settlement zone).trans (Zone.afterSample_settlement run x),
    fun on => ?_, fun off => (congrArg Zone.hot zone).trans (if_pos off),
    fun settling settled => ?_, ?_, fun rises => ?_, fun same => ?_,
    fun y other => ⟨State.sampleZone_zone_of_ne rfl other, State.sampleZone_heater_of_ne rfl other⟩,
    (congrArg (fun t : State => t.timers.zone[z]) (State.sampleZone_eq rfl)).trans (s.zoneMoment_timer z),
    State.sampled_frame (State.sampleZone_eq rfl)⟩
  · exact (congrArg Zone.stale zone).trans ((congrArg Zone.stale Zone.afterSample_eq).symm.trans (Zone.afterSample_fresh run x))
  · rw [zone]
    exact (iff_of_eq (congrArg (· = true) (if_neg on))).trans decide_eq_true_iff
  · refine congrArg Host.Outcome.next (unlessHeld_sample free ⟨settling, ?_⟩)
    exact (congrArg Zone.state (State.sampleZone_zone rfl) :).symm.trans settled
  · rw [State.sampleZone_zone rfl]
    exact (s.zoneMoment z).applyZone_reevaluated z _
  · obtain ⟨heater, posts⟩ := ZoneStep.taken_rises (u := s.zoneStep z) rises.1
      ((congrArg Zone.hot (State.sampleZone_zone step)).symm.trans rises.2)
    refine ⟨(State.sampleZone_heater step).trans heater, fun room => ?_⟩
    rw [State.sampleZone_notices step, posts]
    exact NoticeQueue.push_list room _
  · obtain ⟨heater, posts⟩ := ZoneStep.taken_stays (u := s.zoneStep z) (x := x) fun rises =>
      same ⟨rises.1, (congrArg Zone.hot (State.sampleZone_zone step)).trans rises.2⟩
    refine ⟨(State.sampleZone_heater step).trans heater, ?_⟩
    rw [State.sampleZone_notices step, posts]
    rfl

end Sys2Proof.Machine
end

section
/-! PROOF. The start of a heater window (R40 to R51). -/

namespace Sys2Proof.Machine

/-! ## The control law, for one zone and its heater -/

section
variable {z : Zone} {h : Heater}

/-- The rows of R44 that reach the control law. -/
theorem Zone.controlled_iff : z.controlled = true ↔
    (z.state = .ramp ∨ z.state = .settling ∨ z.state = .settled) ∧ z.hot = false ∧ z.stale = false := by
  constructor
  · intro law
    obtain ⟨rest, fresh⟩ := Bool.and_eq_true_iff.1 law
    obtain ⟨rest, fault⟩ := Bool.and_eq_true_iff.1 rest
    obtain ⟨on, cool⟩ := Bool.and_eq_true_iff.1 rest
    exact ⟨ZoneState.running_of_ne (of_decide_eq_true on) (of_decide_eq_true fault), Bool.not_eq_true' _ ▸ cool,
      Bool.not_eq_true' _ ▸ fresh⟩
  · intro ⟨running, cool, fresh⟩
    rw [Zone.controlled, cool, fresh]
    obtain e | e | e := running <;> rw [e] <;> rfl

/-- Where the integrator is not held (R48). -/
theorem Heater.suppresses_iff {e : Int} : ¬h.suppresses e = true ↔
    (0 < e ∧ h.lastGrant ≠ 1000 ∧ h.lastRequest ≤ h.lastGrant) ∨ (e < 0 ∧ h.lastGrant ≠ 0) := by
  obtain up | zero | down := lt_trichotomy 0 e
  · rw [Heater.suppresses, if_pos up, decide_eq_true_iff, not_or, Nat.not_lt]
    exact ⟨fun moves => .inl ⟨up, moves⟩, fun moves => moves.elim And.right fun low => absurd low.1 up.asymm⟩
  · subst zero
    exact ⟨fun moves => absurd rfl moves, fun moves => moves.elim (fun up => absurd up.1 (lt_irrefl _))
      fun low => absurd low.1 (lt_irrefl _)⟩
  · rw [Heater.suppresses, if_neg down.asymm, if_pos down, decide_eq_true_iff]
    exact ⟨fun moves => .inr ⟨down, moves⟩, fun moves => moves.elim (fun up => absurd up.1 down.asymm) And.right⟩

theorem nextIntegrator_eq : nextIntegrator z h = if (0 < z.error ∧ h.lastGrant ≠ 1000 ∧ h.lastRequest ≤ h.lastGrant)
    ∨ (z.error < 0 ∧ h.lastGrant ≠ 0) then clamp 0 64000 (h.integrator + z.config.ki * z.error) else h.integrator :=
  (ite_not _ _ _).symm.trans (if_congr Heater.suppresses_iff rfl rfl)

theorem request_controlled (law : z.controlled = true) : request z h = lawRequest z h := by
  obtain ⟨running, cool, fresh⟩ := Zone.controlled_iff.1 law
  rw [request, cool, fresh, if_neg (ZoneState.ne_fault_of_running running), if_neg, if_neg Bool.false_ne_true,
    if_neg Bool.false_ne_true]
  obtain e | e | e := running <;> rw [e] <;> decide

theorem request_fault (fault : z.state = .fault) (cool : z.hot = false) :
    request z h = if z.faultAge < z.config.faultHold * 1000 then h.heldDuty else 0 := by
  rw [request, fault, cool]
  rfl

/-- Elsewhere nothing is asked for: in OFF, in HOT and where the temperature is stale. -/
theorem request_none (law : ¬z.controlled = true) (rest : z.state ≠ .fault ∨ z.hot = true) : request z h = 0 := by
  rw [request]
  by_cases off : z.state = .off
  · exact if_pos off
  · by_cases hot : z.hot = true
    · rw [if_neg off, if_pos hot]
    · have fault := rest.resolve_right hot
      have cool := Bool.eq_false_iff.2 hot
      have stale : z.stale = true := by
        refine Bool.of_not_eq_false fun fresh => law (Zone.controlled_iff.2 ⟨ZoneState.running_of_ne off fault, cool, fresh⟩)
      rw [if_neg off, if_neg hot, if_neg fault, if_pos stale]

end

/-! ## The part after the start -/

theorem exec_windowStart {s : State} (free : s.inputs.resetPin = false) :
    exec .windowStart s = .next s.windowMoment.startWindow := congrArg _ (s.unlessHeld_released _ free)

/-- Settles O26: each heater is what `Heater.started` makes of it, and nothing but drive, heaters and timers is written. -/
theorem windowStartGrantsEveryZone : Obligations.WindowStartGrantsEveryZone := by
  intro s free
  refine ⟨s.windowMoment.startWindow, exec_windowStart free, rfl, rfl, fun z => ⟨?_, fun law => ?_, fun fault cool => ?_,
    fun law rest => ?_, ?_, ?_, ?_, ?_⟩, rfl⟩
  · refine (congrArg Heater.integrator (heaters_of_windowStart free (exec_windowStart free) z)).trans ?_
    exact if_congr Zone.controlled_iff nextIntegrator_eq rfl
  · refine (lastRequest_of_windowStart free (exec_windowStart free) z).trans ((request_controlled (Zone.controlled_iff.2 law)).trans ?_)
    exact congrArg (fun i => (clamp 0 1000 (s.zones[z].proportional + i / 64)).toNat) nextIntegrator_eq
  · exact (lastRequest_of_windowStart free (exec_windowStart free) z).trans (request_fault fault cool)
  · exact (lastRequest_of_windowStart free (exec_windowStart free) z).trans (request_none (mt Zone.controlled_iff.1 law) rest)
  · exact (congrArg Heater.heldDuty (heaters_of_windowStart free (exec_windowStart free) z) :)
  · rw [heaters_of_windowStart free (exec_windowStart free) z]
    rfl
  · rw [heaters_of_windowStart free (exec_windowStart free) z]
    exact decide_eq_true_iff
  · dsimp only
    rw [demand_of_windowStart free (exec_windowStart free)]
    exact lastGrant_of_windowStart free (exec_windowStart free) z

end Sys2Proof.Machine
end

section
/-! PROOF. What the conditions of R26 make of a zone, and HEAT (R26, R27, R43, R53). -/

namespace Sys2Proof.Machine

/-! ## One zone under the conditions of R26 -/

/-- What no change of state writes to. -/
def Zone.figures (z : Zone) := (z.config, z.temp, z.setpoint, z.band, z.settle, z.sampled, z.implausible)

section
variable (u : ZoneStep)

theorem ZoneStep.judgeHot_zone_eq : ∃ h, u.judgeHot.zone = { u.zone with hot := h } := by
  obtain same | same | ⟨_, same⟩ := u.judgeHot_cases
  · exact ⟨u.zone.hot, congrArg ZoneStep.zone same⟩
  · exact ⟨false, congrArg ZoneStep.zone same⟩
  · exact ⟨true, congrArg ZoneStep.zone same⟩

theorem ZoneStep.goOff_state : u.goOff.zone.state = .off := by
  by_cases off : u.zone.state = .off
  · exact (congrArg (fun v : ZoneStep => v.zone.state) (if_pos off)).trans off
  · exact congrArg (fun v : ZoneStep => v.zone.state) (if_neg off)

theorem ZoneStep.goOff_stays {u : ZoneStep} (off : u.zone.state = .off) : u.goOff = u := if_pos off

theorem ZoneStep.goOff_enters {u : ZoneStep} (on : u.zone.state ≠ .off) : u.goOff = u.enterOff := if_neg on

theorem ZoneStep.goOff_figures : u.goOff.zone.figures = u.zone.figures :=
  (apply_ite (fun v : ZoneStep => v.zone.figures) _ _ _).trans (ite_self _)

/-- A zone that leaves OFF (R27). -/
theorem ZoneStep.leaveOff_zone : u.leaveOff.zone.state = (if u.zone.implausible = 2 then .fault else .ramp) ∧
    u.leaveOff.zone.settleTimer = 0 ∧ u.leaveOff.zone.figures = u.zone.figures := by
  by_cases fault : u.zone.implausible = 2
  · obtain ⟨h, same⟩ := u.enterFault.judgeHot_zone_eq
    rw [ZoneStep.leaveOff, if_pos fault, if_pos fault, same]
    exact ⟨rfl, rfl, rfl⟩
  · obtain ⟨h, same⟩ := ZoneStep.judgeHot_zone_eq { u with zone := { u.zone with state := .ramp, settleTimer := 0 } }
    rw [ZoneStep.leaveOff, if_neg fault, if_neg fault, same]
    exact ⟨rfl, rfl, rfl⟩

variable {master eStop : Bool}

theorem ZoneStep.follow_off (off : u.zone.mustBeOff master eStop = true) : u.follow master eStop = u.goOff := if_pos off

theorem ZoneStep.follow_leaves (free : ¬u.zone.mustBeOff master eStop = true) (off : u.zone.state = .off) :
    u.follow master eStop = u.leaveOff := (if_neg free).trans (if_pos off)

theorem ZoneStep.follow_figures : (u.follow master eStop).zone.figures = u.zone.figures := by
  by_cases free : u.zone.mustBeOff master eStop = true
  · rw [ZoneStep.follow_off u free, ZoneStep.goOff_figures]
  · by_cases off : u.zone.state = .off
    · rw [ZoneStep.follow_leaves u free off]
      exact u.leaveOff_zone.2.2
    · exact congrArg (fun v : ZoneStep => v.zone.figures) ((if_neg free).trans (if_neg off))

end

/-! ## All zones -/

section
variable (s : State)

theorem State.followZones_zone (z : ZoneIx) :
    s.followZones.zones[z] = ((s.zoneStep z).follow s.drive.master s.inputs.eStop).zone := s.applyZones_zone _ z

theorem State.followZones_heater (z : ZoneIx) :
    s.followZones.heaters[z] = ((s.zoneStep z).follow s.drive.master s.inputs.eStop).heater := s.applyZones_heater _ z

theorem State.followZones_eq : s.followZones = (((s.setZones s.followZones.zones).setHeaters s.followZones.heaters).setDraws
    s.followZones.draws).setNotices s.followZones.notices := by
  obtain ⟨q, same⟩ := s.applyZones_spec fun _ => ZoneStep.follow s.drive.master s.inputs.eStop
  rw [State.followZones, same]
  rfl

theorem State.followZones_cycle : s.followZones.cycle = s.cycle := by
  rw [s.followZones_eq]
  rfl

/-- An evaluation over a state of the same cycle. -/
theorem Reevaluated.of_cycle {s t u : State} (evaluated : Reevaluated u t) (same : u.cycle = s.cycle) : Reevaluated s t := by
  rw [Reevaluated, ← same]
  exact evaluated

end

/-! ## HEAT -/

section
variable {s : State} {guard : Byte} {on : Bool}

theorem heatCommand_flag (s : State) (on : Bool) : heatCommand [flag on] s = .done (s.setMaster on) [flag on] := by
  cases on <;> rfl

/-- What HEAT leaves where it changes the master. -/
def State.heatChanged (s : State) (on : Bool) : State :=
  ((s.hunt.setDrive { s.drive with master := on }).followZones.evaluate).owe 0x23 .done [flag on]

theorem State.setMaster_changes {s : State} (changes : s.drive.master ≠ on) :
    s.setMaster on = (s.setDrive { s.drive with master := on }).followZones.evaluate := if_neg (Ne.symm changes)

theorem State.setMaster_same {s : State} (same : s.drive.master = on) : s.setMaster on = s := if_pos same.symm

theorem exec_heat_changed (accepted : s.accepts guard) (changes : s.drive.master ≠ on) :
    exec (.heat guard [flag on]) s = .next (s.heatChanged on) := by
  rw [exec_accepted accepted rfl, heatCommand_flag, State.setMaster_changes (s := s.hunt) changes]
  rfl

theorem exec_heat_same (accepted : s.accepts guard) (same : s.drive.master = on) :
    exec (.heat guard [flag on]) s = .next (s.answering 0x23 .done [flag on]) := by
  refine exec_answered accepted rfl ?_
  rw [heatCommand_flag, State.setMaster_same (s := s.hunt) same]
  rfl

/-- What an answer leaves after all zones have followed and the reasons were evaluated. -/
theorem followed_frame {s t : State} {zs hs d q} (same : t = (((s.setZones zs).setHeaters hs).setDraws d).setNotices q)
    (kind : Byte) (st : Status) (body : List Byte) : (t.evaluate.owe kind st body).drive = s.drive ∧
      (t.evaluate.owe kind st body).tools = s.tools ∧ (t.evaluate.owe kind st body).rates = s.rates ∧
      (t.evaluate.owe kind st body).scale = s.scale ∧ (t.evaluate.owe kind st body).queue = s.queue ∧
      (t.evaluate.owe kind st body).cure = s.cure ∧ (t.evaluate.owe kind st body).ejector = s.ejector ∧
      (t.evaluate.owe kind st body).ring = s.ring ∧ (t.evaluate.owe kind st body).clocks = s.clocks ∧
      (t.evaluate.owe kind st body).inputs = s.inputs ∧ (t.evaluate.owe kind st body).timers = s.timers ∧
      (t.evaluate.owe kind st body).pending = s.pending ∧
      (t.evaluate.owe kind st body).port.answer = some ⟨kind, st, body⟩ := by
  subst same
  exact ⟨rfl, rfl, rfl, rfl, rfl, rfl, rfl, rfl, rfl, rfl, rfl, rfl, rfl⟩

theorem State.heatChanged_frame : (s.heatChanged on).drive = { s.drive with master := on } ∧
    (s.heatChanged on).tools = s.tools ∧ (s.heatChanged on).rates = s.rates ∧ (s.heatChanged on).scale = s.scale
      ∧ (s.heatChanged on).queue = s.queue ∧ (s.heatChanged on).cure = s.cure
      ∧ (s.heatChanged on).ejector = s.ejector ∧ (s.heatChanged on).ring = s.ring ∧ (s.heatChanged on).clocks = s.clocks
      ∧ (s.heatChanged on).inputs = s.inputs ∧ (s.heatChanged on).timers = s.timers
      ∧ (s.heatChanged on).pending = s.pending ∧ (s.heatChanged on).port.answer = some ⟨0x23, .done, [flag on]⟩ :=
  followed_frame (State.followZones_eq _) _ _ _

theorem State.heatChanged_zone (z : ZoneIx) :
    (s.heatChanged on).zones[z] = ((s.zoneStep z).follow on s.inputs.eStop).zone :=
  State.followZones_zone (s.hunt.setDrive { s.drive with master := on }) z

theorem State.heatChanged_heater (z : ZoneIx) :
    (s.heatChanged on).heaters[z] = ((s.zoneStep z).follow on s.inputs.eStop).heater :=
  State.followZones_heater (s.hunt.setDrive { s.drive with master := on }) z

theorem State.heatChanged_figures (z : ZoneIx) : (s.heatChanged on).zones[z].figures = s.zones[z].figures := by
  rw [State.heatChanged_zone]
  exact ZoneStep.follow_figures _

/-- Switched off, every zone is OFF. -/
theorem State.heatChanged_off (z : ZoneIx) : (s.zoneStep z).follow false s.inputs.eStop = (s.zoneStep z).goOff :=
  ZoneStep.follow_off _ rfl

theorem State.heatChanged_reevaluated : Reevaluated s (s.heatChanged on) :=
  (State.evaluate_reevaluated (s.hunt.setDrive { s.drive with master := on }).followZones).of_cycle (State.followZones_cycle _)

/-- Switched on, a zone with a setpoint leaves OFF. -/
theorem State.heatChanged_on {z : ZoneIx} (off : s.zones[z].state = .off) (set : s.zones[z].setpoint ≠ 0) :
    (s.zoneStep z).follow true false = (s.zoneStep z).leaveOff :=
  ZoneStep.follow_leaves _ (fun must => set (beq_iff_eq.1 must)) off

/-- With E_STOP asserted it does not. -/
theorem State.heatChanged_held (held : s.inputs.eStop = true) (off : ∀ z : ZoneIx, s.zones[z].state = .off) :
    (s.heatChanged true).zones = s.zones := by
  refine Vector.ext fun i inside => (s.heatChanged_zone ⟨i, inside⟩).trans ?_
  rw [held, ZoneStep.follow_off _ rfl, ZoneStep.goOff_stays (off ⟨i, inside⟩)]
  rfl

/-- Settles O30: the zones follow the new master, one by one. -/
theorem heatSwitchesTheMaster : Obligations.HeatSwitchesTheMaster := by
  intro s guard on accepted
  refine ⟨fun body long => exec_badLength accepted rfl rfl (beq_eq_false_iff_ne.2 long),
    fun b high => exec_refused accepted rfl (if_pos high), exec_heat_same accepted,
    fun changes => ⟨s.heatChanged on, exec_heat_changed accepted changes, State.heatChanged_frame.1,
      fun off z => ?_, fun lit free z off set => ?_, fun lit held off => lit ▸ State.heatChanged_held held off,
      fun z => ⟨congrArg (·.1) (State.heatChanged_figures z), congrArg (·.2.1) (State.heatChanged_figures z),
        congrArg (·.2.2.1) (State.heatChanged_figures z)⟩, State.heatChanged_reevaluated,
      State.heatChanged_frame.2⟩⟩
  · rw [State.heatChanged_zone, State.heatChanged_heater, off, State.heatChanged_off]
    refine ⟨ZoneStep.goOff_state _, fun on => ?_⟩
    rw [ZoneStep.goOff_enters on]
    exact ⟨rfl, rfl, rfl, rfl, rfl, rfl, rfl, rfl⟩
  · rw [State.heatChanged_zone, free, lit, State.heatChanged_on off set]
    exact ⟨(ZoneStep.leaveOff_zone _).1, (ZoneStep.leaveOff_zone _).2.1⟩

end

end Sys2Proof.Machine
end

section
/-! PROOF. Bridge samples (R60 to R63, R69, R72 to R76). -/

namespace Sys2Proof.Machine

/-! ## What a sample does to the scale before anything else -/

/-- Two scales that differ in reference, stability timer and load at most. -/
def Scale.Weighs (k w : Scale) : Prop := w = { k with reference := w.reference, stabilityTimer := w.stabilityTimer, load := w.load }

theorem Scale.weigh_eq (k : Scale) (c : Int) : k.Weighs (k.weigh c) :=
  iteInduction (motive := k.Weighs) (fun _ => rfl) fun _ =>
    iteInduction (motive := fun w : Scale => k.Weighs { w with load := w.judgedLoad }) (fun _ => rfl) fun _ => rfl

/-- The state in which a bridge sample acts on the capture. -/
def State.weighed (s : State) (count : BitVec 24) : State := s.bridgeMoment.setScale (s.scale.weigh count.toInt)

theorem State.weighed_zero {s : State} {count : BitVec 24} : (s.weighed count).scale.zero = s.scale.zero :=
  (congrArg Scale.zero (Scale.weigh_eq _ _) :)

theorem State.weighed_span {s : State} {count : BitVec 24} : (s.weighed count).scale.span = s.scale.span :=
  (congrArg Scale.span (Scale.weigh_eq _ _) :)

section
variable {s : State} {before : LoadState} {c : Int} {count : BitVec 24}

theorem exec_bridgeSample (free : s.inputs.resetPin = false) :
    exec (.bridgeSample count) s = .next (s.sampleBridge count) := congrArg _ (s.unlessHeld_released _ free)

/-- A row that names what a sample does is that sample (log 1). -/
theorem unlessHeld_bridge {q : Prop} [Decidable q] (free : s.inputs.resetPin = false) (done : q) :
    s.unlessHeld (if q then s.sampleBridge count else s) = s.sampleBridge count := by
  rw [if_pos done, s.unlessHeld_released _ free]

theorem State.actOnCapture_measuring {k : Measurement} (measuring : s.scale.capture = .measuring)
    (some : s.scale.measurement = .some k) : s.actOnCapture before c = s.measure c k := by
  rw [State.actOnCapture, measuring, some]

theorem State.sampleBridge_measuring {k : Measurement} (measuring : s.scale.capture = .measuring)
    (some : s.scale.measurement = .some k) : s.sampleBridge count = (s.weighed count).measure count.toInt k :=
  State.actOnCapture_measuring (s := s.weighed count) ((congrArg Scale.capture (Scale.weigh_eq _ _) :).trans measuring)
    ((congrArg Scale.measurement (Scale.weigh_eq _ _) :).trans some)

/-! ## The ends of a measurement (R75, R76) -/

/-- Every end leaves IDLE and the lamps, and posts one notice. -/
theorem State.ends_weighed (zero span : Int) (kind : NoticeKind) (v : Int) {t : State}
    (ended : t = (s.weighed count).endMeasurement zero span kind v) :
    t.scale.zero = zero ∧ t.scale.span = span ∧ t.scale.measurement = none ∧ t.scale.capture = .idle
      ∧ t.scale.accept = s.scale.accept ∧ t.scale.reject = s.scale.reject
      ∧ (s.notices.list.length < 16 →
        t.notices.list = s.notices.list ++ [⟨kind, s.clocks.part, .absent, some v⟩]) := by
  subst ended
  exact ⟨rfl, rfl, rfl, rfl, (congrArg Scale.accept (Scale.weigh_eq _ _) :), (congrArg Scale.reject (Scale.weigh_eq _ _) :),
    fun room => NoticeQueue.push_list room _⟩

end

theorem MeasureKind.railValue_eq (k : MeasureKind) : k.railValue = if k = .tare then 0 else 1 := by
  cases k <;> rfl

/-- The quotient that a span's factor is (R76). -/
theorem ediv_eq_of_mul_le {n d f : Int} (pos : 0 < d) (low : f * d ≤ n) (high : n < (f + 1) * d) : n / d = f :=
  le_antisymm (Int.lt_add_one_iff.1 (Int.ediv_lt_of_lt_mul pos high)) (Int.le_ediv_of_mul_le pos low)

section
variable {s : State} {k : Measurement} {c : Int}

theorem State.measure_rail (rail : c = 8388607 ∨ c = -8388607 ∨ c = -8388608) :
    s.measure c k = s.endMeasurement s.scale.zero s.scale.span .spanFailed k.kind.railValue := if_pos (decide_eq_true rail)

theorem State.measure_more (inRange : ¬(c = 8388607 ∨ c = -8388607 ∨ c = -8388608)) (few : k.taken < 15) :
    s.measure c k = s.setScale { s.scale with measurement := some { k with taken := k.taken + 1, sum := k.sum + c } } :=
  (if_neg (mt of_decide_eq_true inRange)).trans (if_neg (Nat.not_le.2 (Nat.succ_lt_succ few)))

theorem State.measure_last (inRange : ¬(c = 8388607 ∨ c = -8388607 ∨ c = -8388608)) (last : k.taken = 15) :
    s.measure c k = s.finishMeasurement { k with taken := k.taken + 1, sum := k.sum + c } :=
  (if_neg (mt of_decide_eq_true inRange)).trans (if_pos (Nat.succ_le_succ last.ge))

theorem State.finishMeasurement_span (m n : Nat) (sum : Int) (low : sum.tdiv 16 ≤ s.scale.zero) :
    s.finishMeasurement ⟨.span m, n, sum⟩ = s.endMeasurement s.scale.zero s.scale.span .spanFailed 2 :=
  if_pos (Int.sub_nonpos_of_le low)

theorem State.finishMeasurement_factor {m n : Nat} {sum f : Int} (high : s.scale.zero < sum.tdiv 16)
    (least : f * (sum.tdiv 16 - s.scale.zero) ≤ m * 65536) (most : (m : Int) * 65536 < (f + 1) * (sum.tdiv 16 - s.scale.zero)) :
    s.finishMeasurement ⟨.span m, n, sum⟩ = if f < 1 ∨ 262143 < f then s.endMeasurement s.scale.zero s.scale.span .spanFailed 3
      else s.endMeasurement s.scale.zero f .spanDone f := by
  have pos := Int.sub_pos_of_lt high
  refine (if_neg (not_le.2 pos)).trans ?_
  rw [show ((m : Int) * 65536) / (Measurement.mean ⟨.span m, n, sum⟩ - s.scale.zero) = f from ediv_eq_of_mul_le pos least most]
  rfl

end

section
variable {s : State} {k : Measurement} {count : BitVec 24} (measuring : s.scale.capture = .measuring)
  (some : s.scale.measurement = .some k)
include measuring some

theorem State.sampleBridge_rail (rail : count.toInt = 8388607 ∨ count.toInt = -8388607 ∨ count.toInt = -8388608) :
    s.sampleBridge count = (s.weighed count).endMeasurement s.scale.zero s.scale.span .spanFailed (if k.kind = .tare then 0 else 1) := by
  rw [State.sampleBridge_measuring measuring some, State.measure_rail rail, MeasureKind.railValue_eq,
    State.weighed_zero, State.weighed_span]

variable (inRange : ¬(count.toInt = 8388607 ∨ count.toInt = -8388607 ∨ count.toInt = -8388608)) (last : k.taken = 15)
include inRange last

theorem State.sampleBridge_last :
    s.sampleBridge count = (s.weighed count).finishMeasurement { k with taken := k.taken + 1, sum := k.sum + count.toInt } := by
  rw [State.sampleBridge_measuring measuring some, State.measure_last inRange last]

theorem State.sampleBridge_tare (tare : k.kind = .tare) : s.sampleBridge count =
    (s.weighed count).endMeasurement ((k.sum + count.toInt).tdiv 16) s.scale.span .tareDone ((k.sum + count.toInt).tdiv 16) := by
  rw [State.sampleBridge_last measuring some inRange last, tare, ← State.weighed_span]
  rfl

theorem State.sampleBridge_span {m : Nat} (span : k.kind = .span m) (low : (k.sum + count.toInt).tdiv 16 ≤ s.scale.zero) :
    s.sampleBridge count = (s.weighed count).endMeasurement s.scale.zero s.scale.span .spanFailed 2 := by
  rw [← State.weighed_zero (count := count)] at low
  rw [State.sampleBridge_last measuring some inRange last, span, State.finishMeasurement_span _ _ _ low, State.weighed_zero,
    State.weighed_span]

theorem State.sampleBridge_factor {m : Nat} {f : Int} (span : k.kind = .span m)
    (high : s.scale.zero < (k.sum + count.toInt).tdiv 16)
    (least : f * ((k.sum + count.toInt).tdiv 16 - s.scale.zero) ≤ m * 65536)
    (most : (m : Int) * 65536 < (f + 1) * ((k.sum + count.toInt).tdiv 16 - s.scale.zero)) :
    s.sampleBridge count = if f < 1 ∨ 262143 < f
      then (s.weighed count).endMeasurement s.scale.zero s.scale.span .spanFailed 3
      else (s.weighed count).endMeasurement s.scale.zero f .spanDone f := by
  rw [← State.weighed_zero (count := count)] at high least most
  rw [State.sampleBridge_last measuring some inRange last, span, State.finishMeasurement_factor high least most,
    State.weighed_zero, State.weighed_span]

/-- The row of such a sample is that sample. -/
theorem Scale.lastSample_true {b : Bool} (kind : (match k.kind with | .tare => b | .span _ => !b) = true) :
    s.scale.lastSample count.toInt b = true := by
  rw [Scale.lastSample, measuring, some]
  exact Bool.and_eq_true_iff.2 ⟨Bool.and_eq_true_iff.2 ⟨decide_eq_true (Nat.succ_le_succ last.ge),
    congrArg (!·) (decide_eq_false inRange)⟩, kind⟩

end

/-- Settles O35. -/
theorem measurementOutcomes : Obligations.MeasurementOutcomes := by
  intro s k count free measuring some c rail mean ends
  refine ⟨fun atRail => ⟨_, exec_bridgeSample free, State.ends_weighed _ _ _ _ (State.sampleBridge_rail measuring some atRail)⟩,
    fun inRange few => ⟨_, exec_bridgeSample free, ?_⟩,
    fun inRange last tare => ⟨s.sampleBridge count, congrArg Host.Outcome.next (unlessHeld_bridge free ?_), exec_bridgeSample free,
      State.ends_weighed _ _ _ _ (State.sampleBridge_tare measuring some inRange last tare)⟩,
    fun inRange last m span => ⟨s.sampleBridge count, congrArg Host.Outcome.next (unlessHeld_bridge free ?_), exec_bridgeSample free,
      fun low => State.ends_weighed _ _ _ _ (State.sampleBridge_span measuring some inRange last span low),
      fun high f least most => ?_⟩⟩
  · rw [State.sampleBridge_measuring measuring some, State.measure_more inRange few]
    exact ⟨(congrArg Scale.capture (Scale.weigh_eq _ _) :).trans measuring, rfl, State.weighed_zero, State.weighed_span, rfl⟩
  · exact Scale.lastSample_true measuring some inRange last (by rw [tare])
  · exact Scale.lastSample_true measuring some inRange last (by rw [span]; rfl)
  · have sample := State.sampleBridge_factor measuring some inRange last span high least most
    refine iteInduction (motive := id) (fun within => ?_) fun beyond => ?_
    · exact State.ends_weighed _ _ _ _ (sample.trans (if_neg fun out => out.elim within.1.not_gt within.2.not_gt))
    · exact State.ends_weighed _ _ _ _ (sample.trans (if_pos ((not_and_or.1 beyond).imp not_le.1 not_le.1)))

/-! ## What a bridge sample leaves (R60 to R63, R74) -/

/-- What acting on a capture does not write to: pan, station and arming, and every block but scale, queue, cycle and
notices. -/
def State.pan (s : State) := ((s.scale.reference, s.scale.stabilityTimer, s.scale.load, s.scale.station, s.scale.arming), s.timers,
  s.tools, s.rates, s.zones, s.heaters, s.drive, s.cure, s.ejector, s.ring, s.port, s.clocks, s.inputs, s.pending)

section
variable (s : State)

theorem State.ite_pan {q : Prop} [Decidable q] {a b : State} (first : a.pan = s.pan) (second : b.pan = s.pan) :
    (if q then a else b).pan = s.pan :=
  iteInduction (motive := fun t : State => t.pan = s.pan) (fun _ => first) fun _ => second

theorem State.captureOutcome_pan (p : Snapshot) : (s.captureOutcome p).pan = s.pan := by
  refine s.ite_pan rfl (s.ite_pan rfl ?_)
  have changed (u : State) (q : List ChargeEntry) : (u.changeQueue q).pan = u.pan := by
    obtain ⟨same, _⟩ | same := u.changeQueue_cases q <;> rw [same] <;> rfl
  exact changed (s.setScale _) _

theorem State.finishMeasurement_pan (m : Measurement) : (s.finishMeasurement m).pan = s.pan := by
  unfold State.finishMeasurement
  cases m.kind
  · rfl
  · exact s.ite_pan rfl (s.ite_pan rfl rfl)

theorem State.actOnCapture_pan (before : LoadState) (c : Int) : (s.actOnCapture before c).pan = s.pan := by
  unfold State.actOnCapture
  cases s.scale.capture
  · rfl
  · cases s.scale.snapshot
    · rfl
    · exact s.ite_pan (s.captureOutcome_pan _) rfl
  · exact s.ite_pan rfl rfl
  · cases s.scale.measurement
    · rfl
    · exact s.ite_pan rfl (s.ite_pan (s.finishMeasurement_pan _) rfl)

theorem State.sampleBridge_pan (count : BitVec 24) : (s.sampleBridge count).pan = (s.weighed count).pan :=
  State.actOnCapture_pan (s.weighed count) _ _

end

section
variable {k : Scale} {c : Int}

theorem Scale.stabilise_moved {m : Int} (moved : k.station.band < |m - k.reference|) :
    k.stabilise m = { k with reference := m, stabilityTimer := 0 } := if_pos moved

theorem Scale.stabilise_still {m : Int} (still : ¬k.station.band < |m - k.reference|) :
    k.stabilise m = { k with stabilityTimer := min 5000 (k.stabilityTimer + 20) } := if_neg still

theorem Scale.weigh_rail (rail : c = 8388607 ∨ c = -8388607 ∨ c = -8388608) :
    k.weigh c = { k with stabilityTimer := 0, load := .signalFault } := if_pos (decide_eq_true rail)

variable (inRange : ¬(c = 8388607 ∨ c = -8388607 ∨ c = -8388608))
include inRange

theorem Scale.weigh_inRange : k.weigh c =
    { k.stabilise (k.sampleMass c) with load := (k.stabilise (k.sampleMass c)).judgedLoad } :=
  if_neg (mt of_decide_eq_true inRange)

theorem Scale.weigh_reference : if k.station.band < |((c - k.zero) * k.span).tdiv 65536 - k.reference|
    then (k.weigh c).reference = ((c - k.zero) * k.span).tdiv 65536 ∧ (k.weigh c).stabilityTimer = 0
    else (k.weigh c).reference = k.reference ∧ (k.weigh c).stabilityTimer = min 5000 (k.stabilityTimer + 20) := by
  rw [Scale.weigh_inRange inRange]
  refine iteInduction (motive := id) (fun moved => ?_) fun still => ?_
  · rw [Scale.stabilise_moved (m := k.sampleMass c) moved]
    exact ⟨rfl, rfl⟩
  · rw [Scale.stabilise_still (m := k.sampleMass c) still]
    exact ⟨rfl, rfl⟩

theorem Scale.weigh_load : (k.weigh c).load = if (k.weigh c).reference ≤ k.station.emptyThreshold then .empty
    else if k.station.capacity < (k.weigh c).reference then .overload
    else if k.station.time ≤ (k.weigh c).stabilityTimer then .steady else .moving := by
  rw [← (congrArg Scale.station (k.weigh_eq c) :), Scale.weigh_inRange inRange]
  rfl

end

section
variable {s : State} {count : BitVec 24}

theorem State.sampleBridge_reference : (s.sampleBridge count).scale.reference = (s.scale.weigh count.toInt).reference :=
  congrArg (·.1.1) (s.sampleBridge_pan count)

theorem State.sampleBridge_timer : (s.sampleBridge count).scale.stabilityTimer = (s.scale.weigh count.toInt).stabilityTimer :=
  congrArg (·.1.2.1) (s.sampleBridge_pan count)

theorem State.sampleBridge_load : (s.sampleBridge count).scale.load = (s.scale.weigh count.toInt).load :=
  congrArg (·.1.2.2.1) (s.sampleBridge_pan count)

variable (s count) in
theorem State.sampleBridge_frame_tail : (s.sampleBridge count).timers.bridge = 0
    ∧ (s.sampleBridge count).scale.station = s.scale.station ∧ (s.sampleBridge count).scale.arming = s.scale.arming
    ∧ (s.sampleBridge count).tools = s.tools ∧ (s.sampleBridge count).rates = s.rates ∧ (s.sampleBridge count).zones = s.zones
    ∧ (s.sampleBridge count).heaters = s.heaters ∧ (s.sampleBridge count).drive = s.drive
    ∧ (s.sampleBridge count).cure = s.cure ∧ (s.sampleBridge count).ejector = s.ejector ∧ (s.sampleBridge count).ring = s.ring
    ∧ (s.sampleBridge count).port = s.port ∧ (s.sampleBridge count).clocks = s.clocks
    ∧ (s.sampleBridge count).inputs = s.inputs ∧ (s.sampleBridge count).pending = s.pending := by
  have pan := s.sampleBridge_pan count
  exact ⟨(congrArg (·.2.1.bridge) pan :), (congrArg (·.1.2.2.2.1) pan).trans (congrArg Scale.station (Scale.weigh_eq _ _) :), (congrArg (·.1.2.2.2.2) pan).trans (congrArg Scale.arming (Scale.weigh_eq _ _) :),
    (congrArg (·.2.2.1) pan :), (congrArg (·.2.2.2.1) pan :), (congrArg (·.2.2.2.2.1) pan :),
    (congrArg (·.2.2.2.2.2.1) pan :), (congrArg (·.2.2.2.2.2.2.1) pan :), (congrArg (·.2.2.2.2.2.2.2.1) pan :),
    (congrArg (·.2.2.2.2.2.2.2.2.1) pan :), (congrArg (·.2.2.2.2.2.2.2.2.2.1) pan :), (congrArg (·.2.2.2.2.2.2.2.2.2.2.1) pan :),
    (congrArg (·.2.2.2.2.2.2.2.2.2.2.2.1) pan :), (congrArg (·.2.2.2.2.2.2.2.2.2.2.2.2.1) pan :), (congrArg (·.2.2.2.2.2.2.2.2.2.2.2.2.2) pan :)⟩

/-- HELD ends at the first EMPTY after another load (R74). -/
theorem State.sampleBridge_held (held : s.scale.capture = .held) : s.sampleBridge count =
    if (s.scale.weigh count.toInt).load = .empty ∧ s.scale.load ≠ .empty
      then (s.weighed count).setScale (s.weighed count).scale.cleared else s.weighed count := by
  change (s.weighed count).actOnCapture _ _ = _
  rw [State.actOnCapture, show (s.weighed count).scale.capture = .held from (congrArg Scale.capture (Scale.weigh_eq _ _) :).trans held]
  rfl

/-- In IDLE, and in WAITING before the load is STEADY, the sample weighs and no more. -/
theorem State.sampleBridge_weighs (idle : s.scale.capture = .idle
    ∨ (s.scale.capture = .waiting ∧ (s.scale.weigh count.toInt).load ≠ .steady)) : s.sampleBridge count = s.weighed count := by
  have capture : (s.weighed count).scale.capture = s.scale.capture := (congrArg Scale.capture (Scale.weigh_eq _ _) :)
  change (s.weighed count).actOnCapture _ _ = _
  obtain idle | ⟨waiting, unsteady⟩ := idle
  · rw [State.actOnCapture, capture, idle]
  · rw [State.actOnCapture, capture, waiting]
    cases (s.weighed count).scale.snapshot
    · rfl
    · exact if_neg unsteady

end

/-- Settles O33. -/
theorem bridgeSampleWeighsTheStack : Obligations.BridgeSampleWeighsTheStack := by
  intro s count free
  refine ⟨s.sampleBridge count, exec_bridgeSample free, ?_, fun held => ?_, fun idle => ?_, s.sampleBridge_frame_tail count⟩
  · rw [State.sampleBridge_load, State.sampleBridge_reference, State.sampleBridge_timer]
    refine iteInduction (motive := id) (fun rail => ?_) fun inRange => ⟨Scale.weigh_reference inRange, Scale.weigh_load inRange⟩
    rw [Scale.weigh_rail rail]
    exact ⟨rfl, rfl, rfl⟩
  · rw [State.sampleBridge_load]
    refine iteInduction (motive := id) (fun emptied => ?_) fun laden => ?_
    · rw [State.sampleBridge_held held, if_pos emptied]
      exact ⟨rfl, rfl, rfl⟩
    · rw [State.sampleBridge_held held, if_neg laden]
      exact ⟨(congrArg Scale.capture (Scale.weigh_eq _ _) :).trans held, (congrArg Scale.accept (Scale.weigh_eq _ _) :),
        (congrArg Scale.reject (Scale.weigh_eq _ _) :)⟩
  · rw [State.sampleBridge_load] at idle
    rw [State.sampleBridge_weighs idle]
    exact congrArg s.bridgeMoment.setScale (Scale.weigh_eq _ _)

end Sys2Proof.Machine
end

section
/-! PROOF. The zones and heaters kept sound by every step (R19, R26, R39, R43, R51): one zone first, then the part. -/

namespace Sys2Proof.Machine

/-! ## One zone -/

/-- What is asked of a zone and its heater whatever the conditions of R26: all of `ZoneSound` but when a zone is OFF. -/
structure ZoneFit (x : ZoneState) (hot : Bool) (timer age p i : Nat) (h : Heater) : Prop where
  cleared : x = .off → hot = false ∧ timer = 0 ∧ age = 0 ∧ h.integrator = 0 ∧ h.lastRequest = 0 ∧ h.lastGrant = 0
  output : h.output = true → x ≠ .off ∧ hot = false
  plausible : p ≤ 7 ∧ (x ≠ .fault → p = 0)
  implausible : i ≤ 2
  running : x = .ramp ∨ x = .settling ∨ x = .settled → i ≤ 1
  faultAge : age ≤ 600000
  integrator : 0 ≤ h.integrator ∧ h.integrator ≤ 64000
  duty : h.lastGrant ≤ h.lastRequest ∧ h.lastRequest ≤ 1000 ∧ h.heldDuty ≤ 1000

namespace ZoneStep

def Fit (u : ZoneStep) : Prop :=
  ZoneFit u.zone.state u.zone.hot u.zone.settleTimer u.zone.faultAge u.zone.plausible u.zone.implausible u.heater

/-- OFF exactly while a condition of R26 holds. -/
def Obeys (master eStop : Bool) (z : Zone) : Prop := z.state = .off ↔ master = false ∨ eStop = true ∨ z.setpoint = 0

def Sound (master eStop : Bool) (u : ZoneStep) : Prop := u.Fit ∧ Obeys master eStop u.zone

theorem sound_iff {master eStop : Bool} {u : ZoneStep} : ZoneSound master eStop u.zone u.heater ↔ u.Sound master eStop :=
  ⟨fun ⟨a, b, c, d, e, f, g, h, i⟩ => ⟨⟨b, c, d, e, f, g, h, i⟩, a⟩, fun ⟨⟨b, c, d, e, f, g, h, i⟩, a⟩ => ⟨a, b, c, d, e, f, g, h, i⟩⟩

theorem mustBeOff_iff {master eStop : Bool} (z : Zone) :
    z.mustBeOff master eStop = true ↔ master = false ∨ eStop = true ∨ z.setpoint = 0 := by
  rw [Zone.mustBeOff, Bool.or_eq_true, Bool.or_eq_true, Bool.not_eq_true', beq_iff_eq, or_assoc]

theorem rests {x : ZoneState} (rests : x = .off ∨ x = .fault) : ¬(x = .ramp ∨ x = .settling ∨ x = .settled) := by
  obtain rfl | rfl := rests <;> decide

/-- A zone that stays outside OFF at the same setpoint. -/
theorem Obeys.on {master eStop : Bool} {y z : Zone} (obeys : Obeys master eStop y) (before : y.state ≠ .off) (after : z.state ≠ .off)
    (setpoint : z.setpoint = y.setpoint) : Obeys master eStop z :=
  iff_of_false after (setpoint ▸ mt obeys.2 before)

section
variable {u : ZoneStep} (fit : u.Fit)
include fit

/-- A zone that goes on outside OFF and FAULT. -/
theorem Fit.runs {z : Zone} (on : z.state ≠ .off) (hot : z.hot = u.zone.hot) (plausible : z.plausible = 0)
    (implausible : z.implausible ≤ 1) (age : z.faultAge ≤ 600000) : Fit { u with zone := z } :=
  ⟨fun off => absurd off on, fun out => ⟨on, hot.trans (fit.output out).2⟩, ⟨plausible ▸ Nat.zero_le _, fun _ => plausible⟩,
    implausible.trans (Nat.le_succ 1), fun _ => implausible, age, fit.integrator, fit.duty⟩

/-- Nothing but HOT and what its rise cuts off is judged (R34, R43). -/
theorem Fit.judgeHot : u.judgeHot.Fit := by
  by_cases off : u.zone.state = .off
  · rw [judgeHot_idle (.inl off)]
    exact fit
  · obtain same | same | ⟨_, same⟩ := u.judgeHot_cases <;> rw [same]
    · exact fit
    · exact ⟨fun stays => absurd stays off, fun _ => ⟨off, rfl⟩, fit.plausible, fit.implausible, fit.running, fit.faultAge,
        fit.integrator, fit.duty⟩
    · exact ⟨fun stays => absurd stays off, fun out => absurd out Bool.false_ne_true, fit.plausible, fit.implausible, fit.running,
        fit.faultAge, fit.integrator, Nat.zero_le _, fit.duty.2⟩

theorem Fit.enterOff : u.enterOff.Fit :=
  ⟨fun _ => ⟨rfl, rfl, rfl, rfl, rfl, rfl⟩, fun out => absurd out Bool.false_ne_true, ⟨Nat.zero_le _, fun _ => rfl⟩,
    fit.implausible, fun on => absurd on (rests (.inl rfl)), Nat.zero_le _, ⟨Int.le_refl 0, show (0 : Int) ≤ 64000 by decide⟩,
    Nat.le_refl 0, Nat.zero_le _, fit.duty.2.2⟩

theorem Fit.goOff : u.goOff.Fit := by
  by_cases off : u.zone.state = .off
  · exact (goOff_stays off).symm ▸ fit
  · exact (goOff_enters off).symm ▸ fit.enterOff

theorem Fit.enterFault : u.enterFault.Fit :=
  ⟨fun off => ZoneState.noConfusion off, fun out => ⟨fun off => ZoneState.noConfusion off, (fit.output out).2⟩,
    ⟨Nat.zero_le _, fun other => absurd rfl other⟩, fit.implausible, fun on => absurd on (rests (.inr rfl)), Nat.zero_le _,
    fit.integrator, fit.duty.1, fit.duty.2.1, fit.duty.1.trans fit.duty.2.1⟩

theorem Fit.leaveOff (off : u.zone.state = .off) : u.leaveOff.Fit := by
  refine Fit.judgeHot (iteInduction (fun _ => fit.enterFault) fun few => ?_)
  exact fit.runs (fun e => ZoneState.noConfusion e) rfl (fit.plausible.2 fun fault => ZoneState.noConfusion (off.symm.trans fault))
    (Nat.le_of_lt_succ (Nat.lt_of_le_of_ne fit.implausible few)) fit.faultAge

end

/-! ## The conditions of R26 and the working figures -/

section
variable {master eStop : Bool} {u : ZoneStep}

theorem leaveOff_on (u : ZoneStep) : u.leaveOff.zone.state ≠ .off := by
  rw [u.leaveOff_zone.1]
  split <;> decide

theorem judgeHot_obeys : Obeys master eStop u.judgeHot.zone ↔ Obeys master eStop u.zone := by
  obtain ⟨_, same⟩ := u.judgeHot_zone_eq
  rw [same]
  rfl

theorem Sound.judgeHot (sound : u.Sound master eStop) : u.judgeHot.Sound master eStop :=
  ⟨sound.1.judgeHot, judgeHot_obeys.2 sound.2⟩

/-- Once it has followed, a zone obeys the conditions (R26, R27). -/
theorem Fit.follow (fit : u.Fit) : (u.follow master eStop).Sound master eStop := by
  have figures := congrArg (·.2.2.1) (u.follow_figures (master := master) (eStop := eStop))
  have setpoint : (u.follow master eStop).zone.setpoint = u.zone.setpoint := figures
  rw [Sound, Obeys, setpoint, ← mustBeOff_iff u.zone]
  by_cases must : u.zone.mustBeOff master eStop = true
  · rw [follow_off u must]
    exact ⟨fit.goOff, iff_of_true u.goOff_state must⟩
  · by_cases off : u.zone.state = .off
    · rw [follow_leaves u must off]
      exact ⟨fit.leaveOff off, iff_of_false u.leaveOff_on must⟩
    · rw [show u.follow master eStop = u from (if_neg must).trans (if_neg off)]
      exact ⟨fit, iff_of_false off must⟩

/-- A change of working setpoint or band, by the state it finds; x is the setpoint before (R23). -/
theorem Fit.bandChanged (fit : u.Fit) {x : Int} (before : u.zone.state = .off ↔ master = false ∨ eStop = true ∨ x = 0) :
    (u.bandChanged master eStop (x == 0)).Sound master eStop := by
  have free (on : u.zone.state ≠ .off) {z : Zone} (still : z.state ≠ .off) (lifted : z.setpoint ≠ 0) : Obeys master eStop z :=
    iff_of_false still fun must => on (before.2 (must.imp_right fun rest => .inl (rest.resolve_right lifted)))
  have judged (on : u.zone.state ≠ .off) {v : ZoneStep} (kept : v.Fit) (still : v.zone.state ≠ .off)
      (same : v.zone.setpoint = u.zone.setpoint) :
      (if u.zone.setpoint = 0 then u.enterOff else v.judgeHot).Sound master eStop :=
    iteInduction (fun zero => ⟨fit.enterOff, iff_of_true rfl (.inr (.inr zero))⟩) fun lifted =>
      Sound.judgeHot ⟨kept, free on still (same ▸ lifted)⟩
  have rejudged (on : u.zone.state = .settling ∨ u.zone.state = .settled) :
      (if u.zone.setpoint = 0 then u.enterOff else ZoneStep.judgeHot { u with zone := u.zone.rejudged }).Sound master eStop := by
    have running := fit.running (.inr on)
    have never : u.zone.rejudged.state ≠ .off :=
      iteInduction (motive := fun x : ZoneState => x ≠ .off) (fun _ => iteInduction (motive := fun x : ZoneState => x ≠ .off)
        (fun _ => by decide) fun _ => by decide) fun _ => by decide
    have fault : u.zone.state ≠ .fault := ZoneState.ne_fault_of_running (.inr on)
    have off : u.zone.state ≠ .off := by
      obtain e | e := on <;> rw [e] <;> decide
    exact judged off (fit.runs never rfl (fit.plausible.2 fault) running fit.faultAge) never rfl
  unfold ZoneStep.bandChanged
  split
  next off =>
    split
    next leaves =>
      have must := (Bool.and_eq_true_iff.1 leaves).2
      rw [Bool.not_eq_true', ← Bool.not_eq_true, mustBeOff_iff] at must
      refine ⟨fit.leaveOff off, iff_of_false u.leaveOff_on ?_⟩
      rwa [show u.leaveOff.zone.setpoint = u.zone.setpoint from congrArg (·.2.2.1) u.leaveOff_zone.2.2]
    next stays =>
      refine ⟨fit, iff_of_true off ?_⟩
      by_contra free
      obtain master | eStop | zero := before.1 off
      · exact free (.inl master)
      · exact free (.inr (.inl eStop))
      · refine stays (Bool.and_eq_true_iff.2 ⟨beq_iff_eq.2 zero, ?_⟩)
        rwa [Bool.not_eq_true', ← Bool.not_eq_true, mustBeOff_iff]
  next ramp => exact judged (ramp ▸ by decide) fit (ramp ▸ by decide) rfl
  next settling => exact rejudged (.inl settling)
  next settled => exact rejudged (.inr settled)
  next fault => exact judged (fault ▸ by decide) fit (fault ▸ by decide) rfl

theorem Sound.setWorking (sound : u.Sound master eStop) (w : Working) : (u.setWorking master eStop w).Sound master eStop := by
  obtain ⟨fit, obeys⟩ := sound
  have kept : Fit { u with zone := u.zone.withWorking w } := fit
  unfold ZoneStep.setWorking
  dsimp only
  split
  · exact kept.bandChanged obeys
  next same =>
    have setpoint : w.setpoint = u.zone.setpoint := not_not.1 (not_or.1 same).1
    have now : Obeys master eStop (u.zone.withWorking w) := by
      show u.zone.state = .off ↔ master = false ∨ eStop = true ∨ w.setpoint = 0
      rwa [setpoint]
    split
    next settling =>
      have state := settling.1
      have ne {x : ZoneState} (e : ZoneState.settling ≠ x) : u.zone.state ≠ x := fun same => e (state.symm.trans same)
      exact ⟨kept.runs (fun e => ZoneState.noConfusion e) rfl (fit.plausible.2 (ne (by decide)))
        (fit.running (.inr (.inl state))) fit.faultAge, now.on (ne (by decide)) (fun e => ZoneState.noConfusion e) rfl⟩
    · exact ⟨kept, now⟩

/-- A new configuration is no part of what is asked (R21). -/
theorem Sound.configure (sound : u.Sound master eStop) (c : ZoneConfig) (w : Working) :
    (ZoneStep.configure master eStop w { u with zone := { u.zone with config := c } }).Sound master eStop :=
  Sound.judgeHot (Sound.setWorking (u := { u with zone := { u.zone with config := c } }) sound w)

/-! ## Samples -/

theorem Sound.plausibleSample (sound : u.Sound master eStop) (x : Int) : (u.plausibleSample x).Sound master eStop := by
  obtain ⟨fit, obeys⟩ := sound
  by_cases fault : u.zone.state = .fault
  · have on : u.zone.state ≠ .off := fun off => ZoneState.noConfusion (fault.symm.trans off)
    rw [plausibleSample_fault fault]
    refine iteInduction (fun _ => ?_) fun few => ?_
    · have cold : Fit { u with heater := { u.heater with integrator := 0 } } :=
        ⟨fun off => absurd off on, fit.output, fit.plausible, fit.implausible, fit.running, fit.faultAge,
          ⟨Int.le_refl 0, show (0 : Int) ≤ 64000 by decide⟩, fit.duty⟩
      have ramp : ZoneState.ramp ≠ .off := fun e => ZoneState.noConfusion e
      exact Sound.judgeHot ⟨cold.runs (z := { u.zone.takeTemp x with state := .ramp, settleTimer := 0, plausible := 0, faultAge := 0 })
        ramp rfl rfl (Nat.zero_le _) (Nat.zero_le _), obeys.on on ramp rfl⟩
    · exact ⟨⟨fun off => absurd off on, fit.output, ⟨Nat.le_of_lt_succ (Nat.lt_of_not_le few), fun other => absurd fault other⟩,
        Nat.zero_le _, fun _ => Nat.zero_le _, Nat.min_le_left _ _, fit.integrator, fit.duty⟩, obeys⟩
  · by_cases off : u.zone.state = .off
    · rw [ZoneStep.plausibleSample, off]
      exact ⟨⟨fit.cleared, fit.output, ⟨Nat.zero_le _, fun _ => rfl⟩, Nat.zero_le _, fun _ => Nat.zero_le _, fit.faultAge,
        fit.integrator, fit.duty⟩, obeys⟩
    · have on := (Zone.afterSample_runs ⟨off, fault⟩ x).1
      rw [plausibleSample_judged fault, Zone.afterSample_eq]
      exact Sound.judgeHot ⟨fit.runs on rfl rfl (Nat.zero_le _) fit.faultAge, obeys.on off on rfl⟩

theorem Sound.implausibleSample (sound : u.Sound master eStop) : u.implausibleSample.Sound master eStop := by
  obtain ⟨fit, obeys⟩ := sound
  have counted : min 2 (u.zone.implausible + 1) ≤ 2 := Nat.min_le_left _ _
  by_cases off : u.zone.state = .off
  · rw [implausibleSample_off off]
    exact ⟨⟨fit.cleared, fit.output, ⟨Nat.zero_le _, fun _ => rfl⟩, counted, fun on => absurd on (rests (.inl off)), fit.faultAge,
      fit.integrator, fit.duty⟩, obeys⟩
  · by_cases fault : u.zone.state = .fault
    · rw [implausibleSample_fault fault]
      exact ⟨⟨fun e => absurd e off, fit.output, ⟨Nat.zero_le _, fun _ => rfl⟩, counted, fun on => absurd on (rests (.inr fault)),
        Nat.min_le_left _ _, fit.integrator, fit.duty⟩, obeys⟩
    · rw [implausibleSample_running (ZoneState.running_of_ne off fault)]
      refine iteInduction (fun second => ?_) fun first => ?_
      · exact ⟨⟨fun e => ZoneState.noConfusion e, fun out => ⟨fun e => ZoneState.noConfusion e, (fit.output out).2⟩,
            ⟨Nat.zero_le _, fun _ => rfl⟩, counted, fun on => absurd on (rests (.inr rfl)), Nat.zero_le _, fit.integrator, fit.duty.1,
            fit.duty.2.1, fit.duty.1.trans fit.duty.2.1⟩, obeys.on off (fun e => ZoneState.noConfusion e) rfl⟩
      · exact ⟨fit.runs off rfl rfl (Nat.le_of_lt_succ (Nat.lt_of_le_of_ne counted first)) fit.faultAge, obeys⟩

theorem Sound.sample (sound : u.Sound master eStop) (r : Reading) : (u.sample r).Sound master eStop := by
  unfold ZoneStep.sample
  split
  · exact sound.plausibleSample _
  · exact sound.implausibleSample

end

/-! ## The window start -/

theorem request_le {z : Zone} {h : Heater} (held : h.heldDuty ≤ 1000) : request z h ≤ 1000 := by
  have zero : 0 ≤ 1000 := Nat.zero_le _
  refine iteInduction (motive := (· ≤ 1000)) (fun _ => zero) fun _ => iteInduction (motive := (· ≤ 1000)) (fun _ => zero) fun _ => ?_
  refine iteInduction (motive := (· ≤ 1000)) (fun _ => ?_) fun _ => ?_
  · exact iteInduction (motive := (· ≤ 1000)) (fun _ => held) fun _ => zero
  · exact iteInduction (motive := (· ≤ 1000)) (fun _ => zero) fun _ => lawRequest_le z h

theorem windowIntegrator_range {z : Zone} {h : Heater} (range : 0 ≤ h.integrator ∧ h.integrator ≤ 64000) :
    0 ≤ windowIntegrator z h ∧ windowIntegrator z h ≤ 64000 :=
  iteInduction (motive := fun x : Int => 0 ≤ x ∧ x ≤ 64000) (fun _ => iteInduction (motive := fun x : Int => 0 ≤ x ∧ x ≤ 64000)
    (fun _ => range) fun _ => ⟨le_max_left _ _, max_le (by decide) (min_le_left _ _)⟩) fun _ => range

/-- A zone's heater after a window start (R41 to R44, R51). -/
theorem Fit.started {u : ZoneStep} (fit : u.Fit) (length budget demand : Nat) :
    Fit ⟨u.zone, u.heater.started length budget demand u.zone, u.posts⟩ := by
  have less : grantFor budget demand (request u.zone u.heater) ≤ request u.zone u.heater := grantFor_le_request _
  have off (off : u.zone.state = .off) : request u.zone u.heater = 0 := if_pos off
  refine ⟨fun isOff => ?_, fun out => ?_, fit.plausible, fit.implausible, fit.running, fit.faultAge,
    windowIntegrator_range fit.integrator, less, request_le fit.duty.2.2, fit.duty.2.2⟩
  · obtain ⟨cool, timer, age, integrator, _⟩ := fit.cleared isOff
    have law : ¬u.zone.controlled = true := fun law => absurd (Zone.controlled_iff.1 law).1 (rests (.inl isOff))
    exact ⟨cool, timer, age, (if_neg law).trans integrator, off isOff, Nat.le_zero.1 (off isOff ▸ less)⟩
  · have asked : request u.zone u.heater ≠ 0 := fun none => by
      rw [none, Nat.le_zero] at less
      have on : 0 < onTimeFor length (grantFor budget demand (request u.zone u.heater)) := of_decide_eq_true out
      rw [none, less, onTimeFor, Nat.mul_zero] at on
      exact absurd on (by decide)
    refine ⟨mt off asked, Bool.eq_false_iff.2 fun hot => asked ?_⟩
    exact (if_neg (mt off asked)).trans (if_pos hot)

end ZoneStep

/-! ## The part -/

/-- What `ZoneInv` reads of a state. -/
def State.heat (s : State) := (s.zones, s.heaters, s.drive.master, s.inputs.eStop)

section
variable {s t : State}

theorem ZoneInv.of_heat (inv : ZoneInv s) (same : t.heat = s.heat) : ZoneInv t := by
  obtain ⟨zones, rest⟩ := Prod.mk.inj same
  obtain ⟨heaters, rest⟩ := Prod.mk.inj rest
  obtain ⟨master, eStop⟩ := Prod.mk.inj rest
  intro z
  rw [zones, heaters, master, eStop]
  exact inv z

theorem ZoneInv.at (inv : ZoneInv s) (z : ZoneIx) : (s.zoneStep z).Sound s.drive.master s.inputs.eStop := ZoneStep.sound_iff.1 (inv z)

/-- An event of all zones leaves them sound under the master and the level of E_STOP if it leaves each so. -/
theorem State.applyZones_sound {f : ZoneIx → ZoneStep → ZoneStep}
    (each : ∀ z, (f z (s.zoneStep z)).Sound s.drive.master s.inputs.eStop) : ZoneInv (s.applyZones f) := by
  obtain ⟨q, same⟩ := s.applyZones_spec f
  intro z
  have sound := ZoneStep.sound_iff.2 (each z)
  rw [← s.applyZones_zone f z, ← s.applyZones_heater f z] at sound
  rw [show (s.applyZones f).drive = s.drive by rw [same]; rfl, show (s.applyZones f).inputs = s.inputs by rw [same]; rfl]
  exact sound

theorem State.followZones_sound (fit : ∀ z, (s.zoneStep z).Fit) : ZoneInv s.followZones :=
  State.applyZones_sound fun z => (fit z).follow

theorem ZoneInv.setWorkings (inv : ZoneInv s) : ZoneInv s.setWorkings :=
  State.applyZones_sound fun z => (inv.at z).setWorking _

theorem ZoneInv.applyZone (inv : ZoneInv s) {z : ZoneIx} {f : ZoneStep → ZoneStep}
    (kept : (f (s.zoneStep z)).Sound s.drive.master s.inputs.eStop) : ZoneInv (s.applyZone z f) := by
  have same := State.applyZone_eq (s := s) (z := z) (f := f) rfl
  refine ZoneInv.of_heat (s := (s.setZones (s.zones.set z (f (s.zoneStep z)).zone)).setHeaters (s.heaters.set z (f (s.zoneStep z)).heater))
    (fun y => ?_) (by rw [same]; rfl)
  by_cases here : z = y
  · subst here
    have sound := ZoneStep.sound_iff.2 kept
    simpa using sound
  · simpa [Fin.val_ne_of_ne here] using inv y

theorem State.promote_heat (i : SlotIx) : (s.promote i).heat = s.heat := by
  obtain same | ⟨_, _, _, _, same⟩ := s.promote_cases i <;> rw [same]
  rfl

theorem ZoneInv.promoteMounted (inv : ZoneInv s) : ZoneInv s.promoteMounted := by
  unfold State.promoteMounted
  split
  · exact inv
  · split
    · exact (inv.of_heat (State.promote_heat _)).setWorkings
    · exact inv

theorem State.closeRecord_heat : s.closeRecord.heat = s.heat := by
  unfold State.closeRecord
  split <;> rfl

theorem ZoneInv.closeCycle (inv : ZoneInv s) : ZoneInv s.closeCycle :=
  fun z => ZoneInv.promoteMounted (s := s.closeRecord.idleCure) (fun z => inv.of_heat State.closeRecord_heat z) z

theorem keptByPress_zones : KeptByPress ZoneInv where
  same s t same inv := inv.of_heat (congrArg (fun v => (v.2.2.2.1, v.2.2.2.2.1, v.2.2.2.2.2.1.master, v.2.2.2.2.2.2.1.eStop)) same :)
  write _ _ _ inv := fun z => inv z
  flags _ _ _ _ inv := fun z => inv z
  enter _ _ _ _ inv := fun z => inv z
  close _ _ inv := inv.closeCycle

theorem State.changeQueue_heat (q : List ChargeEntry) : (s.changeQueue q).heat = s.heat :=
  (apply_ite State.heat _ _ _).trans (ite_self _)

theorem State.changeRing_heat (r : Ring) : (s.changeRing r).heat = s.heat := by
  obtain ⟨same, _⟩ | same := s.changeRing_cases r <;> rw [same] <;> rfl

/-! ## RESTART and reset -/

/-- A zone that keeps its heater but for the output, which goes off (R42). -/
theorem ZoneInv.outputOff (inv : ZoneInv s) (z : ZoneIx) : ZoneInv (s.outputOff z) := by
  intro y
  by_cases here : z = y
  · subst here
    have ⟨off, cleared, _, plausible, implausible, running, age, integrator, duty⟩ := inv z
    have sound : ZoneSound s.drive.master s.inputs.eStop s.zones[z] { s.heaters[z] with output := false } :=
      ⟨off, cleared, fun out => absurd out Bool.false_ne_true, plausible, implausible, running, age, integrator, duty⟩
    simpa [State.outputOff] using sound
  · simpa [State.outputOff, Fin.val_ne_of_ne here] using inv y

theorem ZoneInv.startWindow (inv : ZoneInv s) : ZoneInv s.startWindow := by
  intro z
  have ⟨fit, obeys⟩ := inv.at z
  rw [s.startWindow_heaters z]
  exact ZoneStep.sound_iff.2 ⟨fit.started _ _ _, obeys⟩

/-- Zones that are all OFF, with the master off, are sound. -/
theorem ZoneStep.Fit.keepStale {u : ZoneStep} (fit : u.Fit) (eStop : Bool) : (u.keepStale.goOff).Sound false eStop :=
  ⟨ZoneStep.Fit.goOff (u := u.keepStale) fit, iff_of_true (ZoneStep.goOff_state _) (.inl rfl)⟩

theorem ZoneInv.restartHeat (inv : ZoneInv s) : ZoneInv s.restartHeat :=
  State.applyZones_sound (s := s.setDrive { s.drive with master := false }) fun z => (inv.at z).1.keepStale _

theorem ZoneInv.restartClose (inv : ZoneInv s) : ZoneInv s.restartClose := by
  refine iteInduction (fun _ => ?_) fun _ => inv
  obtain ⟨_, _, same⟩ := s.restartFindings_eq
  exact (inv.of_heat (State.closeRecord_heat.trans (by rw [same]; rfl))).promoteMounted

theorem ZoneInv.restartUnmount (inv : ZoneInv s) : ZoneInv s.restartUnmount := by
  have unmounted {u : State} (same : u.heat = s.heat) : ZoneInv (u.setWorkings.enter .noTool) :=
    (inv.of_heat same).setWorkings.of_heat rfl
  exact unmounted rfl

theorem State.restartNotices_heat : s.restartNotices.heat = s.heat := rfl

theorem ZoneInv.restartAct (inv : ZoneInv s) : ZoneInv s.restartAct :=
  inv.restartHeat.restartClose.restartUnmount.of_heat State.restartNotices_heat

/-- A part whose zones, heaters and master are as reset leaves them (R19, R39). -/
theorem zoneInv_of_reset (zones : s.zones = State.reset.zones) (heaters : s.heaters = State.reset.heaters)
    (master : s.drive.master = false) : ZoneInv s := by
  intro z
  have reset := zoneInv_reset z
  rw [zones, heaters]
  exact (ZoneStep.sound_iff (u := State.reset.zoneStep z)).2
    ⟨((ZoneStep.sound_iff (u := State.reset.zoneStep z)).1 reset).1, iff_of_true (reset.off.2 (.inl rfl)) (.inl master)⟩

/-! ## The events -/

theorem keptByEvents_zones : KeptByEvents ZoneInv := keptByPress_zones.events {
  queue := fun _ q inv => inv.of_heat (State.changeQueue_heat q)
  inputs := fun s i same inv => inv.of_heat (by rw [State.heat, State.setInputs_inputs, same.1]; rfl)
  sample := fun s z r inv => ZoneInv.applyZone (s := s.zoneMoment z) (inv.of_heat rfl) ((inv.at z).sample r)
  window := fun _ inv => inv.startWindow
  onTime := fun _ z inv => inv.outputOff z
  stops := fun s inv => keptByPress_zones.stopCycle (fun _ inv z => inv z) (State.followZones_sound fun z => (inv.at z).1)
  resumes := fun s inv =>
    keptByPress_zones.resumeCycle (fun _ inv z => inv z) (State.followZones_sound fun z => (inv.at z).1)
  reset := fun _ _ => zoneInv_of_reset rfl rfl rfl
  restart := fun _ inv => inv.restartAct }

/-! ## The commands -/

theorem ZoneInv.dispose (inv : ZoneInv s) (i : SlotIx) : ZoneInv (s.dispose i) :=
  iteInduction (fun _ => inv) fun _ => iteInduction (fun _ => fun z => inv.promoteMounted z) fun _ => inv.of_heat (State.promote_heat i)

theorem ZoneInv.mountSlot (inv : ZoneInv s) (i : SlotIx) : ZoneInv (s.mountSlot i) :=
  (ZoneInv.setWorkings (s := s.unmountFormer.setMounted (some i)) (inv.of_heat (by simp [State.heat, State.setMounted]))).of_heat rfl

theorem ZoneInv.unmountTool (inv : ZoneInv s) : ZoneInv s.unmountTool :=
  (ZoneInv.setWorkings (s := s.releaseStation.setMounted none) (inv.of_heat (by simp [State.heat, State.setMounted]))).of_heat rfl

theorem ZoneInv.setMaster (inv : ZoneInv s) (on : Bool) : ZoneInv (s.setMaster on) :=
  iteInduction (fun _ => inv) fun _ => (State.followZones_sound (s := s.setDrive { s.drive with master := on })
    fun z => (inv.at z).1).of_heat rfl

theorem ZoneInv.effect (inv : ZoneInv s) (effect : Effect s t) : ZoneInv t := by
  induction effect
  case stage i t r _ _ _ => exact ZoneInv.dispose (s := s.stage i r) (inv.of_heat rfl) i
  case mount i _ _ _ _ _ => exact inv.mountSlot i
  case unmount => exact inv.unmountTool
  case configure c z _ =>
    rw [State.configureZone]
    exact inv.applyZone ((inv.at z).configure c _)
  case heat on => exact inv.setMaster on
  case discard q => exact inv.of_heat (State.changeQueue_heat q)
  case abort => exact keptByPress_zones.abortCycle inv
  case abandon ejecting => exact keptByPress_zones.abandon (by rw [ejecting]; rfl) inv
  case release | serial => exact inv.of_heat (State.changeRing_heat _)
  all_goals exact inv.of_heat rfl

theorem keptByCommands_zones : KeptByCommands ZoneInv :=
  .of_effects (fun _ _ inv => inv.of_heat rfl) (fun _ _ inv => inv.of_heat rfl) fun _ _ effect inv => inv.effect effect

/-- Settles O52: each operation on a zone leaves it fit and follows the conditions of R26, and each change of the master,
E_STOP or a working setpoint is followed by one; while RESET is held the zones are as reset. -/
theorem everyStepKeepsTheZonesSound : Obligations.EveryStepKeepsTheZonesSound := by
  intro s t held inv next
  refine keptByEvents_zones.step keptByCommands_zones (fun _ => id) (fun _ => inv.of_heat rfl) (fun pin q i => ?_) next
  have zones : s.zones = State.reset.zones := (congrArg State.zones (held pin) :)
  have heaters : s.heaters = State.reset.heaters := (congrArg State.heaters (held pin) :)
  have master : s.drive.master = false := (congrArg (fun u : State => u.drive.master) (held pin) :)
  exact zoneInv_of_reset (s := (s.setPending q).setInputs i) zones heaters master

end

end Sys2Proof.Machine
end

section
/-! PROOF. What is carried of records, charges and zones, and the commands that read them (10.6, R36, R57, R87, R145). -/

namespace Sys2Proof.Machine

/-! ## Lists laid end to end -/

section
variable {a b : List Byte} {m n k : Nat} {x : List Byte} {l : List (List Byte)}

theorem length_append_eq (left : a.length = m) (right : b.length = n) : (a ++ b).length = m + n :=
  List.length_append.trans (congrArg₂ _ left right)

theorem length_flatten_of (each : ∀ y ∈ l, y.length = n) : l.flatten.length = n * l.length := by
  induction l with
  | nil => rfl
  | cons y l ih =>
    obtain ⟨first, rest⟩ := List.forall_mem_cons.1 each
    exact (length_append_eq first (ih rest)).trans (Nat.add_comm _ _)

/-- In lists of one length, laid end to end, each stands at its place. -/
theorem take_drop_flatten (each : ∀ y ∈ l, y.length = n) (place : l[k]? = some x) : (l.flatten.drop (n * k)).take n = x := by
  induction l generalizing k with
  | nil => exact absurd place.symm (Option.some_ne_none x)
  | cons y l ih =>
    obtain ⟨first, rest⟩ := List.forall_mem_cons.1 each
    cases k with
    | zero => exact (List.take_left' first).trans (Option.some.inj place)
    | succ k =>
      refine Eq.trans (congrArg (List.take n) ?_) (ih rest place)
      rw [Nat.mul_succ, Nat.add_comm, ← List.drop_drop]
      exact congrArg _ (List.drop_left' first)

end

/-! ## The part record -/

theorem lotPlyBytes_append (l : List Byte) (lot : Option (List Byte)) (ply : Option Nat) : l ++ lotPlyBytes lot ply =
    l ++ [byte (lot.getD []).length] ++ lot.getD [] ++ List.replicate (12 - (lot.getD []).length) 0 ++ [byte (ply.getD 0)] := by
  simp only [lotPlyBytes, List.append_assoc, List.cons_append, List.nil_append]

theorem RecordCavity.bytes_eq (c : RecordCavity) : c.bytes = be16 c.charge ++ be16 c.mass ++ [byte (c.lot.getD []).length]
    ++ c.lot.getD [] ++ List.replicate (12 - (c.lot.getD []).length) 0 ++ [byte (c.ply.getD 0)]
    ++ be32 c.required ++ be32 c.achieved :=
  congrArg (· ++ be32 c.required ++ be32 c.achieved) (lotPlyBytes_append _ _ _)

theorem RecordCavity.bytes_length {c : RecordCavity} (short : (c.lot.getD []).length ≤ 12) : c.bytes.length = 26 := by
  have padded := Nat.add_sub_cancel' short
  simp only [RecordCavity.bytes, lotPlyBytes, List.length_append, List.length_cons, List.length_replicate, length_be16, length_be32,
    padded, List.length_nil]

/-- The items of a record before its cavity entries. -/
def PartRecord.header (r : PartRecord) : List Byte :=
  be32 r.serial ++ [if r.opened then 0 else 1] ++ be16 r.toolNumber ++ [byte (r.slot.val + 1)] ++ be16 r.revision
  ++ be32 r.startTime ++ [byte ((if r.closeTime.isSome then 1 else 0) + (if r.releaseTime.isSome then 2 else 0)
    + (if r.takeoutTime.isSome then 4 else 0) + (if r.tg.isSome then 8 else 0))]
  ++ be32 (r.closeTime.getD 0) ++ be32 (r.releaseTime.getD 0) ++ be32 (r.takeoutTime.getD 0)
  ++ be16 r.cureDuration ++ be16s (r.tg.getD (0, 0)).1 ++ be16s (r.tg.getD (0, 0)).2
  ++ [byte r.strokes, byte r.retries, byte r.outcome.code] ++ be16 r.faults.toNat
  ++ [flag r.verdict, byte r.cavities.length]

theorem PartRecord.presence_eq (r : PartRecord) : r.presence = byte ((if r.closeTime.isSome then 1 else 0)
    + (if r.releaseTime.isSome then 2 else 0) + (if r.takeoutTime.isSome then 4 else 0) + (if r.tg.isSome then 8 else 0)) := by
  have one := (Nat.one_mul _).symm.trans (mul_toNat 1 r.closeTime.isSome)
  exact congrArg byte (congrArg₂ (· + ·) (congrArg₂ (· + ·) (congrArg₂ (· + ·) one (mul_toNat 2 _)) (mul_toNat 4 _)) (mul_toNat 8 _))

theorem flag_not (b : Bool) : flag (!b) = if b then 0 else 1 := by
  cases b <;> rfl

theorem PartRecord.bytes_eq (r : PartRecord) : r.bytes = r.header ++ (r.cavities.map (·.bytes)).flatten := by
  rw [PartRecord.header, ← r.presence_eq, ← flag_not]
  rfl

theorem PartRecord.header_length (r : PartRecord) : r.header.length = 40 :=
  length_append_eq (length_append_eq (length_append_eq (length_append_eq (length_append_eq (length_append_eq (length_append_eq
    (length_append_eq (length_append_eq (length_append_eq (length_append_eq (length_append_eq (length_append_eq (length_append_eq
    (length_append_eq (length_be32 _) List.length_singleton) (length_be16 _)) List.length_singleton) (length_be16 _))
    (length_be32 _)) List.length_singleton) (length_be32 _)) (length_be32 _)) (length_be32 _)) (length_be16 _)) (length_be16s _))
    (length_be16s _)) (n := 3) rfl) (length_be16 _)) (n := 2) rfl

/-- Settles O15: the items before the cavities are 40 bytes, and each cavity entry is 26. -/
theorem partRecordIsCarriedWhole : Obligations.PartRecordIsCarriedWhole := by
  intro r lots
  have each : ∀ y ∈ r.cavities.map (·.bytes), y.length = 26 := List.forall_mem_map.2 fun c mem => RecordCavity.bytes_length (lots c mem)
  have length := length_append_eq r.header_length (length_flatten_of each)
  have drop (n : Nat) : r.bytes.drop (40 + n) = (r.cavities.map (·.bytes)).flatten.drop n := by
    rw [← List.drop_drop, r.bytes_eq, List.drop_left' r.header_length]
  rw [List.length_map, ← r.bytes_eq] at length
  refine ⟨length, (congrArg (List.take 40) r.bytes_eq).trans (List.take_left' r.header_length), fun k c place => ?_⟩
  have entry : (r.cavities.map (·.bytes))[k]? = some c.bytes := List.getElem?_map.trans (congrArg _ place)
  exact ((congrArg (List.take 26) (drop _)).trans (take_drop_flatten each entry)).trans c.bytes_eq

/-! ## The commands that read -/

/-- A byte that carries a zone's number names the zone. -/
theorem u8_zoneNumber (z : ZoneIx) (rest : List Byte) : u8 (byte z.number :: rest) 0 = z.number :=
  (toNat_byte _).trans (Nat.mod_eq_of_lt (Nat.lt_of_le_of_lt z.isLt (by decide)))

theorem ofNat_zoneNumber (z : ZoneIx) (rest : List Byte) : Fin.ofNat 12 (u8 (byte z.number :: rest) 0 - 1) = z :=
  Fin.ext ((congrArg (fun n => (n - 1) % 12) (u8_zoneNumber z rest)).trans (Nat.mod_eq_of_lt z.isLt))

theorem zoneNumber_range (z : ZoneIx) (rest : List Byte) : 1 ≤ u8 (byte z.number :: rest) 0 ∧ u8 (byte z.number :: rest) 0 ≤ 12 := by
  rw [u8_zoneNumber]
  exact ⟨Nat.succ_pos _, z.isLt⟩

theorem readZoneCommand_number (s : State) (z : ZoneIx) : readZoneCommand [byte z.number] s
    = .done s (zoneReport z.number s.zones[z] s.heaters[z]) :=
  (if_pos (zoneNumber_range z [])).trans (congrArg₂ (fun n (z : ZoneIx) => Reply.done s (zoneReport n s.zones[z] s.heaters[z]))
    (u8_zoneNumber z []) (ofNat_zoneNumber z []))

theorem ChargeEntry.bytes_eq (run : Nat) (e : ChargeEntry) : e.bytes run = be16 e.number ++ [byte e.cavity] ++ be16 e.mass
    ++ [byte (e.lot.getD []).length] ++ e.lot.getD [] ++ List.replicate (12 - (e.lot.getD []).length) 0
    ++ [byte (e.ply.getD 0)] ++ be32 e.captureTime ++ be32 (e.deadline - run) :=
  congrArg (· ++ be32 e.captureTime ++ be32 (e.deadline - run)) (lotPlyBytes_append _ _ _)

theorem listChargesCommand_eq {body : List Byte} {start : Nat} (low : start ≤ 11) (named : body = [byte start] ∨ body = [] ∧ start = 0)
    (s : State) : listChargesCommand body s = .done s (byte s.queue.length :: byte start :: byte (min 8 (s.queue.length - start))
      :: (((s.queue.drop start).take 8).map (·.bytes s.clocks.run)).flatten) := by
  have count : ((s.queue.drop start).take 8).length = min 8 (s.queue.length - start) := by rw [List.length_take, List.length_drop]
  have place : startPosition body = start ∧ decide (body.length ≤ 1) = true := by
    obtain rfl | ⟨rfl, rfl⟩ := named
    · exact ⟨(toNat_byte _).trans (Nat.mod_eq_of_lt (Nat.lt_of_le_of_lt low (by decide))), rfl⟩
    · exact ⟨rfl, rfl⟩
  rw [listChargesCommand, place.1, place.2, if_neg (Nat.not_lt_of_le low), ← count]
  rfl

/-- The record with a serial, where serials rise (R145). -/
theorem find?_serial {l : List PartRecord} (rising : l.Pairwise (·.serial < ·.serial)) {r : PartRecord} (mem : r ∈ l) :
    l.find? (·.serial == r.serial) = some r := by
  induction l with
  | nil => exact absurd mem List.not_mem_nil
  | cons q l ih =>
    obtain ⟨above, rising⟩ := List.pairwise_cons.1 rising
    obtain rfl | mem := List.mem_cons.1 mem
    · exact List.find?_cons_of_pos (beq_self_eq_true _)
    · exact (List.find?_cons_of_neg (p := fun p : PartRecord => p.serial == r.serial) fun same => (above r mem).ne (beq_iff_eq.1 same)).trans (ih rising mem)

/-- Settles O14: each command's rule over a body of its length, of another length, and beyond its values. -/
theorem readsReportAndChangeNothing : Obligations.ReadsReportAndChangeNothing := by
  intro s guard accepted
  refine ⟨fun body => ⟨fun wrong => ?_, fun long => ?_, fun wrong => ?_, fun some => ?_⟩, fun b => ⟨fun beyond => ?_, fun beyond => ?_⟩,
    fun z => ?_, fun body start low named => ?_, fun n fits absent => ?_, fun r mem fits rising => ?_, fun none => ?_,
    fun r rest first => ?_⟩
  · exact exec_badLength accepted rfl rfl (beq_eq_false_iff_ne.2 wrong)
  · exact exec_badLength accepted rfl rfl (decide_eq_false (Nat.not_le_of_lt long))
  · exact exec_badLength accepted rfl rfl (beq_eq_false_iff_ne.2 wrong)
  · exact exec_badLength accepted rfl rfl (length_beq_zero some)
  · refine exec_refused accepted rfl (if_neg fun range => ?_)
    obtain rfl | high := beyond
    · exact absurd range.1 (by decide)
    · exact Nat.not_lt_of_le range.2 high
  · exact exec_refused accepted rfl (if_pos beyond)
  · exact exec_answered accepted rfl (readZoneCommand_number s.hunt z)
  · rw [← funext (ChargeEntry.bytes_eq _)]
    exact exec_answered accepted rfl (listChargesCommand_eq low named s.hunt)
  · refine exec_refused accepted rfl (congrArg (reportRecord s.hunt) (a₂ := Option.none) ?_)
    rw [u32_be32 fits, List.find?_eq_none]
    exact List.any_eq_false.1 absent
  · refine exec_answered accepted rfl (congrArg (reportRecord s.hunt) (a₂ := Option.some r) ?_)
    rw [u32_be32 fits]
    exact find?_serial rising mem
  · exact exec_refused accepted rfl (congrArg (fun l : List PartRecord => reportRecord s.hunt l.head?) none)
  · exact exec_answered accepted rfl (congrArg (fun l : List PartRecord => reportRecord s.hunt l.head?) first)

end Sys2Proof.Machine
end
